-- ==== Sys2Proof/Word.lean ====
section
/-! DEFINITION. The machine's word types: a bus byte, a 32-bit host word, a 32-bit byte address
(spec/00_scope.md R7 `ADDR_WIDTH`, R9). Everything wider or narrower is a `BitVec` of its own width. -/

namespace Sys2Proof

/-- One byte on the bus or in system memory (R41, R61). -/
abbrev Byte := BitVec 8

/-- One host register word (R35). -/
abbrev Word := BitVec 32

/-- A byte address of system memory, `ADDR_WIDTH` = 32 bits (R7, R61). -/
abbrev Addr := BitVec 32

end Sys2Proof
end

