-- ==== Sys2Proof/Machine/Capacity.lean ====
section
/-! DEFINITION. The capacity decoder (spec/42_capacity.md R181 to R184) and the CSD fields it reads (R98). -/

namespace Sys2Proof.Machine

/-- CSD_STRUCTURE, `c[0][7:6]` (R98). -/
def csdStructure (csd : Vector Byte 18) : BitVec 2 := csd[0].extractLsb' 6 2

/-- READ_BL_LEN, `c[5][3:0]` (R98). -/
def csdReadBlLen (csd : Vector Byte 18) : BitVec 4 := csd[5].extractLsb' 0 4

/-- C_SIZE of a v1 CSD, `{c[6][1:0], c[7][7:0], c[8][7:6]}` (R98). -/
def csdSizeV1 (csd : Vector Byte 18) : BitVec 12 := csd[6].extractLsb' 0 2 ++ csd[7] ++ csd[8].extractLsb' 6 2

/-- C_SIZE_MULT, `{c[9][1:0], c[10][7]}` (R98). -/
def csdSizeMult (csd : Vector Byte 18) : BitVec 3 := csd[9].extractLsb' 0 2 ++ csd[10].extractLsb' 7 1

/-- C_SIZE of a v2 CSD, `{c[7][5:0], c[8][7:0], c[9][7:0]}` (R98). -/
def csdSizeV2 (csd : Vector Byte 18) : BitVec 22 := csd[7].extractLsb' 0 6 ++ csd[8] ++ csd[9]

/-- Newer cards (R182). -/
def sectorsV2 (csd : Vector Byte 18) : BitVec 32 :=
  BitVec.ofNat 32 (((csdSizeV2 csd).toNat + 1) * 2 ^ 10)

/-- Older cards (R183): computed exactly, divided by 512 if `divide`, then reduced modulo 2^32. -/
def sectorsV1 (divide : Bool) (csd : Vector Byte 18) : BitVec 32 :=
  let v := ((csdSizeV1 csd).toNat + 1) * 2 ^ ((csdSizeMult csd).toNat + 2 + (csdReadBlLen csd).toNat)
  BitVec.ofNat 32 (if divide then v / 2 ^ 9 else v)

/-- `decode_csd` (R181): structure 1 is the newer layout, 0, 2 and 3 the older one. -/
def decodeCsd (divide : Bool) (csd : Vector Byte 18) : BitVec 32 :=
  if csdStructure csd = 1 then sectorsV2 csd else sectorsV1 divide csd

end Sys2Proof.Machine
end

