-- ==== Sys2Proof/Machine/Crc.lean ====
section
/-! DEFINITION. CRC-7 and CRC-16 (spec/41_crc.md R160, R165), bit by bit as the spec's pseudocode has them. -/

namespace Sys2Proof.Machine

/-- The bit order of R160 and R165: most significant first. -/
def bitOrder : List Nat := [7, 6, 5, 4, 3, 2, 1, 0]

/-- One bit of R160: feed back the polynomial 0x09 when bit 6 of the register differs from the message bit. -/
def crc7Bit (c : BitVec 7) (b : Bool) : BitVec 7 :=
  if c.getLsbD 6 ^^ b then (c <<< 1) ^^^ 0x09 else c <<< 1

/-- One byte of R160. -/
def crc7Byte (c : BitVec 7) (b : Byte) : BitVec 7 :=
  bitOrder.foldl (fun c i => crc7Bit c (b.getLsbD i)) c

/-- `crc7(seq)` (R160). -/
def crc7 (seq : List Byte) : BitVec 7 := seq.foldl crc7Byte 0

/-- One bit of R165: feed back the polynomial 0x1021 when bit 15 of the register differs from the message bit. -/
def crc16Bit (c : BitVec 16) (b : Bool) : BitVec 16 :=
  if c.getLsbD 15 ^^ b then (c <<< 1) ^^^ 0x1021 else c <<< 1

/-- `crc16_upd(c, b)` (R165). -/
def crc16Upd (c : BitVec 16) (b : Byte) : BitVec 16 :=
  bitOrder.foldl (fun c i => crc16Bit c (b.getLsbD i)) c

/-- `crc16(seq)` (R165). -/
def crc16 (seq : List Byte) : BitVec 16 := seq.foldl crc16Upd 0

end Sys2Proof.Machine
end

