-- ==== Sys2Proof/Syntax.lean ====
section
/-! DEFINITION. The instructions: one constructor per row of spec/opcode_table.json. Three streams share the type: host
requests (`KIND`, R80), card commands (the frames of R86), and FSM state codes (R97), whose "instruction" is the
micro-step taken while the state tag holds the code. -/

namespace Sys2Proof

inductive Instr where
  -- host requests, format request8 (R80)
  | reqNone
  | reqInit
  | reqRead
  | reqWrite
  /-- `KIND` = `k` in 0x04..0x07; likewise the five below, each with its own range. -/
  | invalidKind04 (k : Byte)
  | invalidKind08 (k : Byte)
  | invalidKind10 (k : Byte)
  | invalidKind20 (k : Byte)
  | invalidKind40 (k : Byte)
  | invalidKind80 (k : Byte)
  -- card commands, format frame48 (R86)
  | cmd0
  | cmd1
  | cmd8
  | cmd9
  | cmd16
  | cmd17 (sector : BitVec 32)
  | cmd24 (sector : BitVec 32)
  | cmd55
  | cmd58
  | cmd59
  | acmd41Hcs
  | acmd41
  -- FSM states, format state8 (R97)
  | stateNone
  | stateIEnter
  | stateIBusReset
  | stateIWaitPower
  | stateISendReset
  | stateICheckVersion
  | stateISendIfCond
  | stateICollectEcho
  | stateIValidateEcho
  | stateIPollOpCond
  | stateIReadOcr
  | stateIClassify
  | stateISelectLegacy
  | stateIPollLegacy
  | stateIDisableCrc
  | stateISetBlklen
  | stateIFinCsdCmd
  | stateIFinCsdToken
  | stateIFinCsdData
  | stateIFinCommit
  | stateRSend
  | stateRToken
  | stateRData
  | stateWSend
  | stateWToken
  | stateWData
  | stateWCrc
  | stateWDresp
  | stateWBusy
  deriving DecidableEq, Repr

end Sys2Proof
end

