-- ==== Sys2Proof/WellFormed.lean ====
section
/-! DEFINITION. Which terms of `Instr` stand for an encoding: an invalid request kind lies in its own row's range
(spec/opcode_table.json; R80). Every other constructor's operands are legal at any value (R81, R102). -/

namespace Sys2Proof

/-- `k` lies in the row's range of request-kind bytes. -/
def kindWithin (lo hi k : Byte) : Bool := decide (lo ≤ k) && decide (k ≤ hi)

/-- The instruction stands for a word of its row of the opcode table. -/
def wellFormed : Instr → Bool
  | .invalidKind04 k => kindWithin 0x04 0x07 k
  | .invalidKind08 k => kindWithin 0x08 0x0F k
  | .invalidKind10 k => kindWithin 0x10 0x1F k
  | .invalidKind20 k => kindWithin 0x20 0x3F k
  | .invalidKind40 k => kindWithin 0x40 0x7F k
  | .invalidKind80 k => kindWithin 0x80 0xFF k
  | .reqNone | .reqInit | .reqRead | .reqWrite => true
  | .cmd0 | .cmd1 | .cmd8 | .cmd9 | .cmd16 | .cmd17 _ | .cmd24 _ | .cmd55 | .cmd58 | .cmd59
  | .acmd41Hcs | .acmd41 => true
  | .stateNone | .stateIEnter | .stateIBusReset | .stateIWaitPower | .stateISendReset | .stateICheckVersion
  | .stateISendIfCond | .stateICollectEcho | .stateIValidateEcho | .stateIPollOpCond | .stateIReadOcr
  | .stateIClassify | .stateISelectLegacy | .stateIPollLegacy | .stateIDisableCrc | .stateISetBlklen
  | .stateIFinCsdCmd | .stateIFinCsdToken | .stateIFinCsdData | .stateIFinCommit => true
  | .stateRSend | .stateRToken | .stateRData => true
  | .stateWSend | .stateWToken | .stateWData | .stateWCrc | .stateWDresp | .stateWBusy => true

end Sys2Proof
end

