-- ==== Sys2Proof/Decode.lean ====
section
/-! DEFINITION. Decoding, total on any bytes and rejecting by name, and the encoder, both written from
spec/30_encoding.md (R80, R83 to R86, R97) and spec/opcode_table.json. A byte is read as a request when it comes from
`KIND` and as a state code when it comes from `fsm`, so the format is an argument of `decode`. -/

namespace Sys2Proof

/-- The three formats of spec/opcode_table.json. -/
inductive Format where
  | request8
  | frame48
  | state8
  deriving DecidableEq, Repr

/-- Why bytes are not an instruction of their format. -/
inductive DecodeError where
  /-- Fewer bytes than the format's length (R101). -/
  | tooShort
  /-- Frame bits 47:46 are not 0b01 (R83, R84). -/
  | badStartBits
  /-- A command index that R86 does not list. -/
  | unknownIndex
  /-- An argument that R86 does not list for the index. -/
  | badArgument
  /-- A CRC byte other than R85's. -/
  | badCrc
  /-- A state code outside R97. -/
  | undefinedState
  deriving DecidableEq, Repr

inductive Decoded where
  | ok (i : Instr) (rest : List Byte)
  | reject (e : DecodeError)
  deriving DecidableEq, Repr

/-! ## FSM state codes (R97) -/

abbrev Fsm.noneLive : Byte := 0x00
abbrev Fsm.iEnter : Byte := 0x10
abbrev Fsm.iBusReset : Byte := 0x11
abbrev Fsm.iWaitPower : Byte := 0x12
abbrev Fsm.iSendReset : Byte := 0x13
abbrev Fsm.iCheckVersion : Byte := 0x14
abbrev Fsm.iSendIfCond : Byte := 0x15
abbrev Fsm.iCollectEcho : Byte := 0x16
abbrev Fsm.iValidateEcho : Byte := 0x17
abbrev Fsm.iPollOpCond : Byte := 0x18
abbrev Fsm.iReadOcr : Byte := 0x19
abbrev Fsm.iClassify : Byte := 0x1A
abbrev Fsm.iSelectLegacy : Byte := 0x1B
abbrev Fsm.iPollLegacy : Byte := 0x1C
abbrev Fsm.iDisableCrc : Byte := 0x1D
abbrev Fsm.iSetBlklen : Byte := 0x1E
abbrev Fsm.iFinCsdCmd : Byte := 0x1F
abbrev Fsm.iFinCsdToken : Byte := 0x20
abbrev Fsm.iFinCsdData : Byte := 0x21
abbrev Fsm.iFinCommit : Byte := 0x22
abbrev Fsm.rSend : Byte := 0x30
abbrev Fsm.rToken : Byte := 0x31
abbrev Fsm.rData : Byte := 0x32
abbrev Fsm.wSend : Byte := 0x40
abbrev Fsm.wToken : Byte := 0x41
abbrev Fsm.wData : Byte := 0x42
abbrev Fsm.wCrc : Byte := 0x43
abbrev Fsm.wDresp : Byte := 0x44
abbrev Fsm.wBusy : Byte := 0x45

/-- The initialization FSM's rows of R97. -/
def initStateRows : List (Byte × Instr) :=
  [(Fsm.iEnter, .stateIEnter), (Fsm.iBusReset, .stateIBusReset), (Fsm.iWaitPower, .stateIWaitPower),
   (Fsm.iSendReset, .stateISendReset), (Fsm.iCheckVersion, .stateICheckVersion),
   (Fsm.iSendIfCond, .stateISendIfCond), (Fsm.iCollectEcho, .stateICollectEcho),
   (Fsm.iValidateEcho, .stateIValidateEcho), (Fsm.iPollOpCond, .stateIPollOpCond),
   (Fsm.iReadOcr, .stateIReadOcr), (Fsm.iClassify, .stateIClassify), (Fsm.iSelectLegacy, .stateISelectLegacy),
   (Fsm.iPollLegacy, .stateIPollLegacy), (Fsm.iDisableCrc, .stateIDisableCrc), (Fsm.iSetBlklen, .stateISetBlklen),
   (Fsm.iFinCsdCmd, .stateIFinCsdCmd), (Fsm.iFinCsdToken, .stateIFinCsdToken),
   (Fsm.iFinCsdData, .stateIFinCsdData), (Fsm.iFinCommit, .stateIFinCommit)]

/-- The read FSM's rows of R97. -/
def readStateRows : List (Byte × Instr) :=
  [(Fsm.rSend, .stateRSend), (Fsm.rToken, .stateRToken), (Fsm.rData, .stateRData)]

/-- The write FSM's rows of R97. -/
def writeStateRows : List (Byte × Instr) :=
  [(Fsm.wSend, .stateWSend), (Fsm.wToken, .stateWToken), (Fsm.wData, .stateWData), (Fsm.wCrc, .stateWCrc),
   (Fsm.wDresp, .stateWDresp), (Fsm.wBusy, .stateWBusy)]

/-- Every row of R97. -/
def stateRows : List (Byte × Instr) :=
  (Fsm.noneLive, .stateNone) :: (initStateRows ++ readStateRows ++ writeStateRows)

/-- The instruction a list of rows gives a code, if it lists it. -/
def lookupState (rows : List (Byte × Instr)) (c : Byte) : Option Instr :=
  match rows with
  | [] => none
  | (k, i) :: rest => if k = c then some i else lookupState rest c

/-! ## Request kinds (R80) -/

/-- `KIND[7:0]`: every byte is a request kind, valid or invalid (R80). -/
def decodeRequest (k : Byte) : Instr :=
  if k = 0x00 then .reqNone
  else if k = 0x01 then .reqInit
  else if k = 0x02 then .reqRead
  else if k = 0x03 then .reqWrite
  else if k ≤ 0x07 then .invalidKind04 k
  else if k ≤ 0x0F then .invalidKind08 k
  else if k ≤ 0x1F then .invalidKind10 k
  else if k ≤ 0x3F then .invalidKind20 k
  else if k ≤ 0x7F then .invalidKind40 k
  else .invalidKind80 k

/-! ## Command frames (R83 to R86) -/

/-- `bytes_be32(v)`, most significant byte first (R10). -/
def bytesBe32 (v : BitVec 32) : List Byte :=
  [v.extractLsb' 24 8, v.extractLsb' 16 8, v.extractLsb' 8 8, v.extractLsb' 0 8]

/-- A command of R86 whose argument is a constant. -/
def fixedCommand (i : Instr) (wantArg : BitVec 32) (wantCrc : Byte) (arg : BitVec 32) (crc : Byte)
    (rest : List Byte) : Decoded :=
  if arg ≠ wantArg then .reject .badArgument
  else if crc ≠ wantCrc then .reject .badCrc
  else .ok i rest

/-- A command of R86 whose argument is the sector, carried unchanged (R102). -/
def sectorCommand (i : Instr) (crc : Byte) (rest : List Byte) : Decoded :=
  if crc ≠ 0x01 then .reject .badCrc else .ok i rest

/-- One 6-byte frame: start and transmission bits 0b01, index, argument, CRC byte (R83, R85, R86). -/
def decodeFrame (b0 : Byte) (arg : BitVec 32) (crc : Byte) (rest : List Byte) : Decoded :=
  let index : BitVec 6 := b0.extractLsb' 0 6
  if b0.extractLsb' 6 2 ≠ 0b01#2 then .reject .badStartBits
  else if index = 0 then fixedCommand .cmd0 0x00000000 0x95 arg crc rest
  else if index = 1 then fixedCommand .cmd1 0x00000000 0x01 arg crc rest
  else if index = 8 then fixedCommand .cmd8 0x000001AA 0x87 arg crc rest
  else if index = 9 then fixedCommand .cmd9 0x00000000 0x01 arg crc rest
  else if index = 16 then fixedCommand .cmd16 0x00000200 0x01 arg crc rest
  else if index = 17 then sectorCommand (.cmd17 arg) crc rest
  else if index = 24 then sectorCommand (.cmd24 arg) crc rest
  else if index = 41 then
    if arg = 0x40000000 then fixedCommand .acmd41Hcs 0x40000000 0x01 arg crc rest
    else fixedCommand .acmd41 0x00000000 0x01 arg crc rest
  else if index = 55 then fixedCommand .cmd55 0x00000000 0x01 arg crc rest
  else if index = 58 then fixedCommand .cmd58 0x00000000 0x01 arg crc rest
  else if index = 59 then fixedCommand .cmd59 0x00000000 0x01 arg crc rest
  else .reject .unknownIndex

/-! ## The decoder -/

/-- The instruction at the head of `bytes`, read in the given format, and the bytes after it (R101). -/
def decode (f : Format) (bytes : List Byte) : Decoded :=
  match f, bytes with
  | .request8, k :: rest => .ok (decodeRequest k) rest
  | .state8, c :: rest =>
    match lookupState stateRows c with
    | some i => .ok i rest
    | none => .reject .undefinedState
  | .frame48, b0 :: b1 :: b2 :: b3 :: b4 :: b5 :: rest => decodeFrame b0 (b1 ++ b2 ++ b3 ++ b4) b5 rest
  | .request8, [] | .state8, [] | .frame48, _ => .reject .tooShort

/-! ## The encoder -/

/-- The format of an instruction's row. -/
def formatOf : Instr → Format
  | .reqNone | .reqInit | .reqRead | .reqWrite | .invalidKind04 _ | .invalidKind08 _ | .invalidKind10 _
  | .invalidKind20 _ | .invalidKind40 _ | .invalidKind80 _ => .request8
  | .cmd0 | .cmd1 | .cmd8 | .cmd9 | .cmd16 | .cmd17 _ | .cmd24 _ | .cmd55 | .cmd58 | .cmd59
  | .acmd41Hcs | .acmd41 => .frame48
  | .stateNone | .stateIEnter | .stateIBusReset | .stateIWaitPower | .stateISendReset | .stateICheckVersion
  | .stateISendIfCond | .stateICollectEcho | .stateIValidateEcho | .stateIPollOpCond | .stateIReadOcr
  | .stateIClassify | .stateISelectLegacy | .stateIPollLegacy | .stateIDisableCrc | .stateISetBlklen
  | .stateIFinCsdCmd | .stateIFinCsdToken | .stateIFinCsdData | .stateIFinCommit | .stateRSend | .stateRToken
  | .stateRData | .stateWSend | .stateWToken | .stateWData | .stateWCrc | .stateWDresp | .stateWBusy => .state8

/-- How many bytes a format's instruction has (R101). -/
def formatBytes : Format → Nat
  | .request8 => 1
  | .state8 => 1
  | .frame48 => 6

/-- The bytes of an instruction, in wire order for a frame (R80, R86, R97). -/
def encode : Instr → List Byte
  | .reqNone => [0x00]
  | .reqInit => [0x01]
  | .reqRead => [0x02]
  | .reqWrite => [0x03]
  | .invalidKind04 k => [k]
  | .invalidKind08 k => [k]
  | .invalidKind10 k => [k]
  | .invalidKind20 k => [k]
  | .invalidKind40 k => [k]
  | .invalidKind80 k => [k]
  | .cmd0 => [0x40, 0x00, 0x00, 0x00, 0x00, 0x95]
  | .cmd1 => [0x41, 0x00, 0x00, 0x00, 0x00, 0x01]
  | .cmd8 => [0x48, 0x00, 0x00, 0x01, 0xAA, 0x87]
  | .cmd9 => [0x49, 0x00, 0x00, 0x00, 0x00, 0x01]
  | .cmd16 => [0x50, 0x00, 0x00, 0x02, 0x00, 0x01]
  | .cmd17 a => 0x51 :: (bytesBe32 a ++ [0x01])
  | .cmd24 a => 0x58 :: (bytesBe32 a ++ [0x01])
  | .cmd55 => [0x77, 0x00, 0x00, 0x00, 0x00, 0x01]
  | .cmd58 => [0x7A, 0x00, 0x00, 0x00, 0x00, 0x01]
  | .cmd59 => [0x7B, 0x00, 0x00, 0x00, 0x00, 0x01]
  | .acmd41Hcs => [0x69, 0x40, 0x00, 0x00, 0x00, 0x01]
  | .acmd41 => [0x69, 0x00, 0x00, 0x00, 0x00, 0x01]
  | .stateNone => [Fsm.noneLive]
  | .stateIEnter => [Fsm.iEnter]
  | .stateIBusReset => [Fsm.iBusReset]
  | .stateIWaitPower => [Fsm.iWaitPower]
  | .stateISendReset => [Fsm.iSendReset]
  | .stateICheckVersion => [Fsm.iCheckVersion]
  | .stateISendIfCond => [Fsm.iSendIfCond]
  | .stateICollectEcho => [Fsm.iCollectEcho]
  | .stateIValidateEcho => [Fsm.iValidateEcho]
  | .stateIPollOpCond => [Fsm.iPollOpCond]
  | .stateIReadOcr => [Fsm.iReadOcr]
  | .stateIClassify => [Fsm.iClassify]
  | .stateISelectLegacy => [Fsm.iSelectLegacy]
  | .stateIPollLegacy => [Fsm.iPollLegacy]
  | .stateIDisableCrc => [Fsm.iDisableCrc]
  | .stateISetBlklen => [Fsm.iSetBlklen]
  | .stateIFinCsdCmd => [Fsm.iFinCsdCmd]
  | .stateIFinCsdToken => [Fsm.iFinCsdToken]
  | .stateIFinCsdData => [Fsm.iFinCsdData]
  | .stateIFinCommit => [Fsm.iFinCommit]
  | .stateRSend => [Fsm.rSend]
  | .stateRToken => [Fsm.rToken]
  | .stateRData => [Fsm.rData]
  | .stateWSend => [Fsm.wSend]
  | .stateWToken => [Fsm.wToken]
  | .stateWData => [Fsm.wData]
  | .stateWCrc => [Fsm.wCrc]
  | .stateWDresp => [Fsm.wDresp]
  | .stateWBusy => [Fsm.wBusy]

/-! ## The table's words -/

/-- Whether an 8-bit table word is read as a state code: it is one of R97's codes and not 0x00, which is read as the
request NONE (log entry 1: the table's request8 and state8 rows share words). -/
def isStateWord (c : Byte) : Bool := c ≠ 0x00 && (lookupState stateRows c).isSome

/-- The format the table word `w` of `nbits` bits is read in (log entry 1). -/
def tableFormat (nbits w : Nat) : Option Format :=
  if nbits = 8 then some (if isStateWord (BitVec.ofNat 8 w) then .state8 else .request8)
  else if nbits = 48 then some .frame48
  else none

/-- The bytes of the table word `w`: one byte, or a frame whose bit 47 is sent first (R83; log entry 19). -/
def tableBytes (nbits w : Nat) : List Byte :=
  if nbits = 48 then
    [BitVec.ofNat 8 (w >>> 40), BitVec.ofNat 8 (w >>> 32), BitVec.ofNat 8 (w >>> 24), BitVec.ofNat 8 (w >>> 16),
     BitVec.ofNat 8 (w >>> 8), BitVec.ofNat 8 w]
  else [BitVec.ofNat 8 w]

/-- The instruction the decoder reads from the table word `w`, or none where it refuses. -/
def decodeTableWord (nbits w : Nat) : Option Instr :=
  if w < 2 ^ nbits then
    match tableFormat nbits w with
    | none => none
    | some f =>
      match decode f (tableBytes nbits w) with
      | .ok i _ => some i
      | .reject _ => none
  else none

end Sys2Proof
end

