-- ==== Sys2Proof/Config.lean ====
section
/-! DEFINITION. What the platform fixes (the parameters of spec/00_scope.md R7) and what the environment chooses
(the CARD, TIME, HOST, SCHED and MEM agents of R16). An `opaque` constant has no value any proof can see. -/

namespace Sys2Proof

/-- One contiguous range of system-memory addresses, `base` ≤ a < `base + size`. -/
structure AddrRange where
  base : Nat
  size : Nat
  deriving DecidableEq, Repr

/-- The parameters of R7 that a rule reads. They are an argument of the model: `State` carries them and no step
writes them, so a statement over all states holds for every value of them (log entry 6).
`dma` is the launch memory of R66 and R67: the ranges whose addresses a DMA access may reach. -/
structure Params where
  regBase      : Addr
  initRetries  : BitVec 8
  wrToken      : Byte
  csdV1Divide  : Bool
  crc16Enforce : Bool
  dma          : List AddrRange
  deriving DecidableEq, Repr

/-- The five phase durations of R7 that `arm(PHASE, d)` names (R43, R233). -/
inductive Duration where
  | tPower
  | tReset
  | tInit
  | tRdToken
  | tWrBusy
  deriving DecidableEq, Repr

/-- One step of an agent outside the server (R16), or a pulse of `tick`, which runs the server (R290). -/
inductive Event where
  /-- SCHED pulses `tick`. -/
  | tick
  /-- HOST reads `size` bytes at `addr` (R310). -/
  | hostRead (addr : Addr) (size : Nat)
  /-- HOST writes the low `size` bytes of `data` at `addr` (R311 to R313). -/
  | hostWrite (addr : Addr) (size : Nat) (data : Word)
  /-- TIME lets the phase timer run out, if it is running (R43). -/
  | expire
  /-- MEM's other users, the host among them, store a byte in system memory (R16, R69). -/
  | memWrite (addr : Addr) (v : Byte)
  /-- The platform drives the reset input (R350). -/
  | reset
  deriving DecidableEq, Repr, Inhabited

/-- `REG_BASE`, OPEN (R7, R66). -/
opaque Config.regBase : Addr

/-- `INIT_RETRIES`, OPEN, 0..255 (R7, R231). -/
opaque Config.initRetries : BitVec 8

/-- `TIME_UNIT`, OPEN (R7); no rule depends on it (R8). -/
opaque Config.timeUnit : Nat

/-- `T_POWER`, `T_RESET`, `T_INIT`, `T_RD_TOKEN`, `T_WR_BUSY`, OPEN (R7); no rule depends on them (R8). -/
opaque Config.duration : Duration → Nat

/-- `T_CMD` = 5 × `TIME_UNIT` (R7); no rule depends on it (R8). -/
def Config.tCmd : Nat := 5 * Config.timeUnit

/-- FREE VALUE: the CARD oracle's answer to the exchange that finds the draw counter at `n` and no scripted answer
left (R41: any of the 256 values is a legal answer). Log entry 3. -/
opaque Config.cardByte : Nat → Byte

/-- FREE VALUE: how many times the command timer's draw says "not expired" before it says "expired", in the response
poll that finds the draw counter at `n` and no scripted poll left (R44: a drawn poll budget `m ≥ 1`; this is `m - 1`).
Log entry 4. -/
opaque Config.pollBudget : Nat → Nat

/-- FREE VALUE: the `n`-th step of the agents when no script names it (R16: each agent steps on its own and they
interleave). Log entry 2. -/
opaque Config.environment : Nat → Event

/-- The parameters with the spec's value where R7 gives one (`WR_TOKEN` 0xFE, `CSD_V1_DIVIDE` false, `CRC16_ENFORCE`
false), OPEN where R7 leaves them open. `dma` admits every 32-bit address: DESIGN CHOICE, log entry 7. -/
def Config.params : Params :=
  { regBase := Config.regBase, initRetries := Config.initRetries, wrToken := 0xFE, csdV1Divide := false,
    crc16Enforce := false, dma := [⟨0, 2 ^ 32⟩] }

end Sys2Proof
end

