-- ==== Sys2Proof/Machine/State.lean ====
section
/-! DEFINITION. The machine's state, all of it, as plain data (spec/10_state.md), and its value after reset (R47).
The last five fields of `State` (`card`, `polls`, `draws`, `outside`, `hostData`) are the model's own. -/

namespace Sys2Proof.Machine

/-- System memory: address and byte, addresses strictly rising, no entry equal to what an unlisted address reads as. -/
abbrev Memory := List Host.Cell

/-- `srv`, the server state (R22). -/
inductive Srv where
  | idle
  | busy
  | fatal
  deriving DecidableEq, Repr

/-- `live`, the FSM whose context is in use (R22). -/
inductive Live where
  | none
  | init
  | read
  | write
  deriving DecidableEq, Repr

/-- The phase timer's state (R43). -/
inductive Phase where
  | stopped
  | running
  | expired
  deriving DecidableEq, Repr

/-- The transaction record (R24). `STATUS.PENDING` is derived from `kind`. `STATUS.BUSY` and `STATUS.FATAL` are bits of
their own, because entering the sink sets FATAL and keeps BUSY (R330). -/
structure Record where
  kind        : Byte
  device      : Byte
  buffer      : BitVec 32
  sector      : BitVec 32
  offset      : BitVec 16
  count       : BitVec 16
  statusBusy  : Bool
  statusFatal : Bool
  error       : BitVec 3
  deriving DecidableEq, Repr

/-- The device descriptor (R26). -/
structure Device where
  mounted    : Bool
  cardType   : Byte
  lastSector : BitVec 32
  rdCount    : BitVec 32
  wrCount    : BitVec 32
  deriving DecidableEq, Repr

/-- The FSM context (R30). -/
structure Context where
  snapDev     : Byte
  snapBuf     : Addr
  snapSector  : BitVec 32
  snapOffset  : BitVec 16
  snapCount   : BitVec 16
  retry       : BitVec 8
  echo        : Vector Byte 4
  echoIdx     : BitVec 3
  ocr         : Vector Byte 4
  ocrIdx      : BitVec 3
  pendType    : Byte
  pollCmd     : Byte
  csd         : Vector Byte 18
  csdIdx      : BitVec 5
  sectorCount : BitVec 32
  idx         : BitVec 10
  crcCalc     : BitVec 16
  crcRecv     : BitVec 16
  deriving DecidableEq, Repr

/-- The stored diagnostic registers (R33); `diag.fsm`, `diag.retry`, `diag.cs` and `diag.hs` are views. -/
structure Diag where
  crcMismatch : Bool
  rdCrcCalc   : BitVec 16
  rdCrcRecv   : BitVec 16
  deriving DecidableEq, Repr

/-- One exchange in the bus history: (`cs`, `hs`, `out`, `in`) of R41. -/
structure BusEvent where
  cs     : Bool
  hs     : Bool
  out    : Byte
  answer : Byte
  deriving DecidableEq, Repr

/-- Where the next agent step comes from (log entry 2). -/
inductive Outside where
  /-- The listed steps, oldest first; when none is left, every step is a `tick`. -/
  | script (events : List Event)
  /-- The environment's own choices, from its `n`-th on (`Config.environment`). -/
  | free (n : Nat)
  deriving DecidableEq, Repr

structure State where
  /-- server state (R22) -/
  srv      : Srv
  /-- which FSM is live (R22) -/
  live     : Live
  /-- the live FSM's state tag, a code of R97 -/
  fsm      : Byte
  /-- transaction record (R24) -/
  record   : Record
  /-- device descriptor (R26) -/
  dev      : Device
  /-- FSM context (R30) -/
  ctx      : Context
  /-- diagnostic registers (R33) -/
  diag     : Diag
  /-- select output, true = card selected (R40) -/
  cs       : Bool
  /-- speed output, true = high speed (R40) -/
  hs       : Bool
  /-- phase timer (R43) -/
  phase    : Phase
  /-- system memory (R60) -/
  mem      : Memory
  /-- the parameters of R7, which no step writes -/
  params   : Params
  /-- the bus history, oldest exchange first (R41, R339) -/
  bus      : List BusEvent
  /-- the CARD agent's answers to the coming exchanges, next first; when none is left, the free value
  `Config.cardByte` answers (log entry 3) -/
  card     : List Byte
  /-- for each coming response poll, how often the command timer's draw says "not expired" before it says "expired";
  when none is left, the free value `Config.pollBudget` (log entry 4) -/
  polls    : List Nat
  /-- how many exchanges have been made; the free values are applied to it -/
  draws    : Nat
  /-- where the next agent step comes from (log entry 2) -/
  outside  : Outside
  /-- the word the last host read returned to the host (R310; log entry 9) -/
  hostData : Word
  deriving DecidableEq, Repr

/-- Why a step has no successor (R322). -/
inductive Fault where
  /-- A host register access that is not an aligned 32-bit access (R63, R313). Raised by `hostReadStep` and
  `hostWriteStep`. It changes no state; the spec names it a model fault. Safe. -/
  | hostAccessRefused (addr : Addr) (size : Nat)
  /-- A DMA access to an address the launch memory does not admit (R67). Raised by `execStateRData` and
  `execStateWData`. The spec names it a model fault. Safe. -/
  | dmaRefused (addr : Addr)
  deriving DecidableEq, Repr

/-- Why a step has no meaning. -/
inductive Refusal where
  /-- An instruction without a meaning yet. Raised by `exec`'s refused arms only; none is left. Safe. -/
  | notModelled (mnemonic : String)
  /-- A host access that lies outside the register block, whose effect is the platform's choice (R313). Raised by
  `hostReadStep` and `hostWriteStep`. Safe. -/
  | outsideBlock (addr : Addr)
  deriving DecidableEq, Repr

/-- Every field at R47's reset value. `mem`, `bus` and the model's own fields are at their start: nothing listed,
nothing exchanged, nothing scripted, the environment free (log entries 2 to 9). -/
def State.reset : State :=
  { srv := .idle
    live := .none
    fsm := 0x00
    record :=
      { kind := 0, device := 0, buffer := 0, sector := 0, offset := 0, count := 0, statusBusy := false,
        statusFatal := false, error := 0 }
    dev := { mounted := false, cardType := 0x00, lastSector := 0, rdCount := 0, wrCount := 0 }
    ctx :=
      { snapDev := 0, snapBuf := 0, snapSector := 0, snapOffset := 0, snapCount := 0, retry := 0,
        echo := #v[0, 0, 0, 0], echoIdx := 0, ocr := #v[0, 0, 0, 0], ocrIdx := 0, pendType := 0, pollCmd := 0,
        csd := #v[0, 0, 0, 0, 0, 0, 0, 0, 0, 0, 0, 0, 0, 0, 0, 0, 0, 0], csdIdx := 0, sectorCount := 0, idx := 0,
        crcCalc := 0, crcRecv := 0 }
    diag := { crcMismatch := false, rdCrcCalc := 0, rdCrcRecv := 0 }
    cs := false
    hs := false
    phase := .stopped
    mem := []
    params := Config.params
    bus := []
    card := []
    polls := []
    draws := 0
    outside := .free 0
    hostData := 0 }

end Sys2Proof.Machine
end

