-- ==== Sys2Proof/Machine/Ops.lean ====
section
/-! DEFINITION. The named operations over memory, the bus, the timers and the control point: the primitives of
spec/00_scope.md R11. TAKING AN EXCEPTION is `post`, `complete` and `raiseFatal` (spec/60_exceptions.md R328, R330);
there is no return from one (R329). -/

namespace Sys2Proof.Machine

/-! ## Constants of R7 -/

/-- `FILL`, the byte sent while receiving. -/
abbrev FILL : Byte := 0xFF

/-- `DUMMY_CRC`. -/
abbrev DUMMY_CRC : Byte := 0x01

/-- `RD_TOKEN`. -/
abbrev RD_TOKEN : Byte := 0xFE

/-- `DRESP_ACCEPT`, compared with a data response's low 5 bits (R94). -/
abbrev DRESP_ACCEPT : Byte := 0x05

/-- The dummy byte of a written block's CRC (R93). -/
abbrev WR_CRC_BYTE : Byte := 0xFF

/-- `BUS_RESET_BYTES`. -/
abbrev BUS_RESET_BYTES : Nat := 10

/-! ## Result codes (R95) and card types (R96) -/

abbrev Code.ok : BitVec 3 := 0
abbrev Code.notInitialized : BitVec 3 := 1
abbrev Code.error : BitVec 3 := 2
abbrev Code.parerr : BitVec 3 := 3
abbrev Code.busy : BitVec 3 := 4
abbrev Code.rejected : BitVec 3 := 5

abbrev CardType.mmc : Byte := 0x01
abbrev CardType.sd1 : Byte := 0x02
abbrev CardType.sd2 : Byte := 0x04
abbrev CardType.sd2Block : Byte := 0x0C

/-! ## System memory (R61) -/

/-- What an address that nothing has written reads as. DESIGN CHOICE, unsafe: log entry 8. -/
def unlistedByte : Byte := 0x00

/-- The byte at an address. -/
def memRead (m : Memory) (a : Nat) : Byte :=
  match m with
  | [] => unlistedByte
  | (k, v) :: rest => if k = a then v else memRead rest a

/-- Store a byte, keeping the canonical form. -/
def memWrite (m : Memory) (a : Nat) (v : Byte) : Memory :=
  match m with
  | [] => if v = unlistedByte then [] else [(a, v)]
  | (k, w) :: rest =>
    if a < k then (if v = unlistedByte then (k, w) :: rest else (a, v) :: (k, w) :: rest)
    else if a = k then (if v = unlistedByte then rest else (a, v) :: rest)
    else (k, w) :: memWrite rest a v

/-- The canonical form from address `lo` on: addresses rising and below 2^32, no entry equal to the unlisted byte. -/
def memWfFrom (lo : Nat) (m : Memory) : Bool :=
  match m with
  | [] => true
  | (k, v) :: rest => decide (lo ≤ k) && decide (k < 2 ^ 32) && decide (v ≠ unlistedByte) && memWfFrom (k + 1) rest

/-- The canonical form. -/
def memWf (m : Memory) : Bool := memWfFrom 0 m

/-- Whether a DMA access may reach the address (R66, R67). -/
def dmaAdmits (s : State) (a : Addr) : Bool :=
  s.params.dma.any fun r => decide (r.base ≤ a.toNat) && decide (a.toNat < r.base + r.size)

/-- `MemRead(a, 1)` (R61). -/
def dmaRead (a : Addr) (s : State) : Byte := memRead s.mem a.toNat

/-- `MemWrite(a, 1, v)` (R61); another user's store has the same effect on memory (R16). -/
def dmaWrite (a : Addr) (v : Byte) (s : State) : State := { s with mem := memWrite s.mem a.toNat v }

/-! ## The bus (R40 to R42, R127) -/

/-- `select()` (R42). -/
def select (s : State) : State := { s with cs := true }

/-- `deselect()` (R42). -/
def deselect (s : State) : State := { s with cs := false }

/-- `set_hs(b)` (R42). -/
def setHs (b : Bool) (s : State) : State := { s with hs := b }

/-- The CARD agent's answer to the next exchange (R41; log entry 3). -/
def cardAnswer (s : State) : Byte :=
  match s.card with
  | [] => Config.cardByte s.draws
  | b :: _ => b

/-- `xchg(out)` (R41): one exchange, recorded in the bus history, whatever `cs` is. -/
def xchg (out : Byte) (s : State) : Byte × State :=
  (cardAnswer s,
   { s with bus := s.bus ++ [⟨s.cs, s.hs, out, cardAnswer s⟩], card := s.card.tail, draws := s.draws + 1 })

/-- An exchange whose answer is discarded. -/
def send (out : Byte) (s : State) : State := (xchg out s).2

/-- Several exchanges in order, their answers discarded. -/
def sendAll (outs : List Byte) (s : State) : State := outs.foldl (fun s b => send b s) s

/-- `release()` (R127). -/
def release (s : State) : State := send FILL (deselect s)

/-! ## The timers (R43, R44) -/

/-- `arm(PHASE, d)` (R43): running from any state; the duration is for the reader (R8; log entry 14). -/
def arm (_d : Duration) (s : State) : State := { s with phase := .running }

/-- `expired(PHASE)` (R43). -/
def expired (s : State) : Bool := decide (s.phase = .expired)

/-- TIME's step (R43): a running timer expires, no other change happens. -/
def expirePhase (s : State) : State :=
  match s.phase with
  | .running => { s with phase := .expired }
  | .stopped => s
  | .expired => s

/-- The command timer's budget for the response poll that starts now (R44; log entry 4). -/
def pollBudget (s : State) : Nat × State :=
  match s.polls with
  | [] => (Config.pollBudget s.draws, s)
  | n :: rest => (n, { s with polls := rest })

/-! ## The control point and completion (R11, R296, R299, R330) -/

/-- `goto S` (R11): set the live FSM's state tag. `stay` leaves the state as it is. -/
def goto (code : Byte) (s : State) : State := { s with fsm := code }

/-- `post(c)` (R299): a request rejected by validation. -/
def post (c : BitVec 3) (s : State) : State := { s with record := { s.record with error := c, kind := 0 } }

/-- `complete(c)` (R296): the live FSM ended in `done(c)`. -/
def complete (c : BitVec 3) (s : State) : State :=
  { s with
    record := { s.record with error := c, kind := 0, statusBusy := false }
    srv := .idle
    live := .none
    fsm := Fsm.noneLive }

/-- `raise Fatal` (R330): every other field keeps its value. -/
def raiseFatal (s : State) : State :=
  { s with srv := .fatal, record := { s.record with statusFatal := true } }

end Sys2Proof.Machine
end

