-- ==== Sys2Proof/Machine/Flags.lean ====
section
/-! DEFINITION. The status flags and diagnostic views the host reads (spec/10_state.md R33, R35, R45) and the tests the
rules make on a received byte (R87, R89, R94). -/

namespace Sys2Proof.Machine

/-- `STATUS.PENDING`: 1 exactly when `KIND ≠ 0` (R24, R292). -/
def pending (s : State) : Bool := decide (s.record.kind ≠ 0)

/-- A byte with bit 7 clear is a response (R87). -/
def isResponse (r : Byte) : Bool := !r.getLsbD 7

/-- The data response's low 5 bits are the accepted pattern (R94). -/
def dataAccepted (d : Byte) : Bool := decide (d &&& 0x1F = DRESP_ACCEPT)

/-- The STATUS word: bit 0 BUSY, bit 1 PENDING, bit 2 FATAL (R35). -/
def statusWord (s : State) : Word :=
  (0 : BitVec 29) ++ BitVec.ofBool s.record.statusFatal ++ BitVec.ofBool (pending s) ++
    BitVec.ofBool s.record.statusBusy

/-- The DEVSTAT word: bit 0 MOUNTED, bits 15:8 CARD_TYPE (R35). -/
def devstatWord (s : State) : Word :=
  (0 : BitVec 16) ++ s.dev.cardType ++ (0 : BitVec 7) ++ BitVec.ofBool s.dev.mounted

/-- The RD_CRC word: CALC in bits 31:16, RECV in bits 15:0 (R35). -/
def rdCrcWord (s : State) : Word := s.diag.rdCrcCalc ++ s.diag.rdCrcRecv

/-- The DIAG word: CRC_MISMATCH, CS, HS in bits 0 to 2, FSM_STATE in 15:8, INIT_RETRY in 23:16 (R35). -/
def diagWord (s : State) : Word :=
  (0 : BitVec 8) ++ s.ctx.retry ++ s.fsm ++ (0 : BitVec 5) ++ BitVec.ofBool s.hs ++ BitVec.ofBool s.cs ++
    BitVec.ofBool s.diag.crcMismatch

end Sys2Proof.Machine
end

