-- ==== Sys2Proof/Machine/Codec.lean ====
section
/-! DEFINITION. The command/response codec (spec/40_codec.md R120 to R127) and the meaning of each card command
(R140 to R150). -/

namespace Sys2Proof.Machine

/-- An outcome of this machine. -/
abbrev Result := Host.Outcome State Fault Refusal

/-- The first five bytes of a frame: `0x40 | n`, then the argument, most significant byte first (R83). -/
def frameHead (n : BitVec 6) (arg : BitVec 32) : List Byte := (0b01#2 ++ n) :: bytesBe32 arg

/-- The frame's CRC byte (R85): computed for indices 0 and 8, `DUMMY_CRC` otherwise. -/
def frameCrc (n : BitVec 6) (arg : BitVec 32) : Byte :=
  if n = 0 ∨ n = 8 then crc7 (frameHead n arg) ++ 1#1 else DUMMY_CRC

/-- The 6-byte frame (R83, R121). -/
def frame (n : BitVec 6) (arg : BitVec 32) : List Byte := frameHead n arg ++ [frameCrc n arg]

/-- The response poll (R124) when the command timer's draw will say "not expired" `n` more times: a byte with bit 7
clear is the response; at expiry the last polled byte is the sentinel. -/
def pollResponse (n : Nat) (s : State) : Byte × State :=
  match n with
  | 0 => xchg FILL s
  | n + 1 =>
    if isResponse (xchg FILL s).1 then xchg FILL s else pollResponse n (xchg FILL s).2

/-- The select sequence before a frame (R123): an idle pulse with the card deselected, one with it selected. -/
def selectCard (s : State) : State := send FILL (select (send FILL (deselect s)))

/-- The select sequence and the six frame bytes (R121, R123, R124). -/
def putFrame (n : BitVec 6) (arg : BitVec 32) (s : State) : State := sendAll (frame n arg) (selectCard s)

/-- The frame and its response poll (R121, R124): the command timer is armed after the frame. -/
def sendFrame (n : BitVec 6) (arg : BitVec 32) (s : State) : Byte × State :=
  pollResponse (pollBudget (putFrame n arg s)).1 (pollBudget (putFrame n arg s)).2

/-- `send_command(code, arg)` (R121): code bit 7 marks an ACMD, whose CMD55 prefix short-circuits on a result
greater than 1 (R122). -/
def sendCommand (code : Byte) (arg : BitVec 32) (s : State) : Byte × State :=
  if code.getLsbD 7 then
    let p := sendFrame 55 0x00000000 s
    if p.1 > 1 then p else sendFrame (code.extractLsb' 0 6) arg p.2
  else sendFrame (code.extractLsb' 0 6) arg s

/-! ## Command codes (R82, R86) -/

abbrev Cmd.cmd0 : Byte := 0x00
abbrev Cmd.cmd1 : Byte := 0x01
abbrev Cmd.cmd8 : Byte := 0x08
abbrev Cmd.cmd9 : Byte := 0x09
abbrev Cmd.cmd16 : Byte := 0x10
abbrev Cmd.cmd17 : Byte := 0x11
abbrev Cmd.cmd24 : Byte := 0x18
abbrev Cmd.cmd55 : Byte := 0x37
abbrev Cmd.cmd58 : Byte := 0x3A
abbrev Cmd.cmd59 : Byte := 0x3B
abbrev Cmd.acmd41 : Byte := 0xA9

/-! ## The commands (R140 to R150): the result the FSM rule reads, and the state after the call -/

/-- `CMD0(0)` (R140). -/
def callCmd0 (s : State) : Byte × State := sendCommand Cmd.cmd0 0x00000000 s

/-- `CMD1(0)` (R141). -/
def callCmd1 (s : State) : Byte × State := sendCommand Cmd.cmd1 0x00000000 s

/-- `CMD8(0x000001AA)` (R142). -/
def callCmd8 (s : State) : Byte × State := sendCommand Cmd.cmd8 0x000001AA s

/-- `CMD9(0)` (R143). -/
def callCmd9 (s : State) : Byte × State := sendCommand Cmd.cmd9 0x00000000 s

/-- `CMD16(0x00000200)` (R144). -/
def callCmd16 (s : State) : Byte × State := sendCommand Cmd.cmd16 0x00000200 s

/-- `CMD17(sector)` (R145): the sector unchanged (R102). -/
def callCmd17 (sector : BitVec 32) (s : State) : Byte × State := sendCommand Cmd.cmd17 sector s

/-- `CMD24(sector)` (R146): the sector unchanged (R102). -/
def callCmd24 (sector : BitVec 32) (s : State) : Byte × State := sendCommand Cmd.cmd24 sector s

/-- `CMD55(0)` (R147). -/
def callCmd55 (s : State) : Byte × State := sendCommand Cmd.cmd55 0x00000000 s

/-- `CMD58(0)` (R148). -/
def callCmd58 (s : State) : Byte × State := sendCommand Cmd.cmd58 0x00000000 s

/-- `CMD59(0)` (R149). -/
def callCmd59 (s : State) : Byte × State := sendCommand Cmd.cmd59 0x00000000 s

/-- `ACMD41(0x40000000)`, HCS set, the v2 branch's (R150). -/
def callAcmd41Hcs (s : State) : Byte × State := sendCommand Cmd.acmd41 0x40000000 s

/-- `ACMD41(0)`, the legacy branch's (R150). -/
def callAcmd41 (s : State) : Byte × State := sendCommand Cmd.acmd41 0x00000000 s

/-! ## The meanings: a command writes the bus history and `cs`, nothing else (R120). Its result is the last answer in
the bus history; the FSM rule that sends it reads it in the same micro-step and drops it (R45; log entry 13). -/

def execCmd0 (s : State) : Result := .next (callCmd0 s).2
def execCmd1 (s : State) : Result := .next (callCmd1 s).2
def execCmd8 (s : State) : Result := .next (callCmd8 s).2
def execCmd9 (s : State) : Result := .next (callCmd9 s).2
def execCmd16 (s : State) : Result := .next (callCmd16 s).2
def execCmd17 (sector : BitVec 32) (s : State) : Result := .next (callCmd17 sector s).2
def execCmd24 (sector : BitVec 32) (s : State) : Result := .next (callCmd24 sector s).2
def execCmd55 (s : State) : Result := .next (callCmd55 s).2
def execCmd58 (s : State) : Result := .next (callCmd58 s).2
def execCmd59 (s : State) : Result := .next (callCmd59 s).2
def execAcmd41Hcs (s : State) : Result := .next (callAcmd41Hcs s).2
def execAcmd41 (s : State) : Result := .next (callAcmd41 s).2

end Sys2Proof.Machine
end

