-- ==== Sys2Proof/Machine/InitFsm.lean ====
section
/-! DEFINITION. The initialization FSM: one micro-step per state (spec/43_init_fsm.md R201 to R222) and the
protocol-error procedure (R230). -/

namespace Sys2Proof.Machine

/-- `PE()` (R230): a full restart while the budget lasts, then NOT_INITIALIZED. -/
def protocolError (s : State) : State :=
  if s.ctx.retry < s.params.initRetries then
    goto Fsm.iBusReset { s with ctx := { s.ctx with retry := s.ctx.retry + 1 } }
  else complete Code.notInitialized (release s)

/-- Enter (R201). -/
def execStateIEnter (s : State) : Result :=
  .next (goto Fsm.iBusReset { setHs false s with ctx := { s.ctx with retry := 0 } })

/-- BusReset (R202). -/
def execStateIBusReset (s : State) : Result :=
  .next (goto Fsm.iWaitPower (arm .tPower (sendAll (List.replicate BUS_RESET_BYTES FILL) (deselect s))))

/-- WaitPowerStable (R203). -/
def execStateIWaitPower (s : State) : Result :=
  .next (if expired s then goto Fsm.iSendReset (arm .tReset s) else s)

/-- SendReset (R204). -/
def execStateISendReset (s : State) : Result :=
  .next
    (let x := callCmd0 s
     if x.1 = 0x01 then goto Fsm.iCheckVersion x.2
     else if expired x.2 then protocolError x.2
     else x.2)

/-- CheckVersion (R205). -/
def execStateICheckVersion (s : State) : Result :=
  .next
    (let x := callCmd8 s
     if x.1 = 0x01 then goto Fsm.iSendIfCond x.2 else goto Fsm.iSelectLegacy x.2)

/-- SendInterfaceCondition (R206). -/
def execStateISendIfCond (s : State) : Result :=
  .next (goto Fsm.iCollectEcho { s with ctx := { s.ctx with echoIdx := 0 } })

/-- Store one trailer byte of CMD8 (R207). An index past the array stores nothing (log entry 11). -/
def storeEcho (b : Byte) (s : State) : State :=
  { s with
    ctx := { s.ctx with echo := s.ctx.echo.setIfInBounds s.ctx.echoIdx.toNat b, echoIdx := s.ctx.echoIdx + 1 } }

/-- CollectVoltageEcho (R207). -/
def execStateICollectEcho (s : State) : Result :=
  .next
    (let x := xchg FILL s
     let t := storeEcho x.1 x.2
     if t.ctx.echoIdx = 4 then goto Fsm.iValidateEcho t else t)

/-- ValidateEcho (R208). -/
def execStateIValidateEcho (s : State) : Result :=
  .next
    (if s.ctx.echo[2] = 0x01 ∧ s.ctx.echo[3] = 0xAA then goto Fsm.iPollOpCond (arm .tInit s)
     else goto Fsm.iSelectLegacy s)

/-- PollOperatingCondition (R210). -/
def execStateIPollOpCond (s : State) : Result :=
  .next
    (let x := callAcmd41Hcs s
     if x.1 = 0x00 then goto Fsm.iReadOcr { x.2 with ctx := { x.2.ctx with ocrIdx := 0 } }
     else if expired x.2 then protocolError x.2
     else x.2)

/-- Store one OCR byte (R211). An index past the array stores nothing (log entry 11). -/
def storeOcr (b : Byte) (s : State) : State :=
  { s with
    ctx := { s.ctx with ocr := s.ctx.ocr.setIfInBounds (s.ctx.ocrIdx.toNat - 1) b, ocrIdx := s.ctx.ocrIdx + 1 } }

/-- ReadOCR (R211): CMD58 at the first tick, then one OCR byte a tick. -/
def execStateIReadOcr (s : State) : Result :=
  .next
    (if s.ctx.ocrIdx = 0 then
      let x := callCmd58 s
      if x.1 ≠ 0x00 then protocolError x.2 else { x.2 with ctx := { x.2.ctx with ocrIdx := 1 } }
     else
      let x := xchg FILL s
      let t := storeOcr x.1 x.2
      if t.ctx.ocrIdx = 5 then goto Fsm.iClassify t else t)

/-- ClassifyCard (R212): OCR bit 30, the CCS bit, is `ocr[0][6]` (R91). -/
def execStateIClassify (s : State) : Result :=
  .next
    (goto Fsm.iFinCsdCmd
      { s with
        ctx := { s.ctx with pendType := if s.ctx.ocr[0].getLsbD 6 then CardType.sd2Block else CardType.sd2 } })

/-- SelectLegacyCommand (R215). -/
def execStateISelectLegacy (s : State) : Result :=
  .next
    (let x := callAcmd41 s
     let t :=
       if x.1 ≤ 0x01 then { x.2 with ctx := { x.2.ctx with pendType := CardType.sd1, pollCmd := Cmd.acmd41 } }
       else { x.2 with ctx := { x.2.ctx with pendType := CardType.mmc, pollCmd := Cmd.cmd1 } }
     goto Fsm.iPollLegacy (arm .tInit t))

/-- PollLegacyIdle (R216): the command is `ctx.poll_cmd`, with argument 0. -/
def execStateIPollLegacy (s : State) : Result :=
  .next
    (let x := sendCommand s.ctx.pollCmd 0x00000000 s
     if x.1 = 0x00 then goto Fsm.iDisableCrc x.2
     else if expired x.2 then protocolError x.2
     else x.2)

/-- DisableCrcCheck (R217): the result is ignored. -/
def execStateIDisableCrc (s : State) : Result :=
  .next (goto Fsm.iSetBlklen (callCmd59 s).2)

/-- SetBlockLength (R218). -/
def execStateISetBlklen (s : State) : Result :=
  .next
    (let x := callCmd16 s
     if x.1 ≠ 0x00 then protocolError x.2 else goto Fsm.iFinCsdCmd x.2)

/-- Zero sectors: the failure exit of R219 and R220. -/
def zeroSectors (s : State) : State :=
  goto Fsm.iFinCommit (release { s with ctx := { s.ctx with sectorCount := 0 } })

/-- Finalize, the CSD command (R219). -/
def execStateIFinCsdCmd (s : State) : Result :=
  .next
    (let x := callCmd9 s
     if x.1 ≠ 0x00 then zeroSectors x.2 else goto Fsm.iFinCsdToken (arm .tRdToken x.2))

/-- Finalize, the CSD data token (R220). -/
def execStateIFinCsdToken (s : State) : Result :=
  .next
    (let x := xchg FILL s
     if x.1 = RD_TOKEN then goto Fsm.iFinCsdData { x.2 with ctx := { x.2.ctx with csdIdx := 0 } }
     else if x.1 = 0xFF ∧ expired x.2 = false then x.2
     else zeroSectors x.2)

/-- Store one CSD byte (R221). An index past the array stores nothing (log entry 11). -/
def storeCsd (b : Byte) (s : State) : State :=
  { s with ctx := { s.ctx with csd := s.ctx.csd.setIfInBounds s.ctx.csdIdx.toNat b, csdIdx := s.ctx.csdIdx + 1 } }

/-- Finalize, the 16 CSD bytes and 2 CRC bytes (R221). -/
def execStateIFinCsdData (s : State) : Result :=
  .next
    (let x := xchg FILL s
     let t := storeCsd x.1 x.2
     if t.ctx.csdIdx = 18 then
       let u := release t
       goto Fsm.iFinCommit { u with ctx := { u.ctx with sectorCount := decodeCsd u.params.csdV1Divide u.ctx.csd } }
     else t)

/-- Finalize, the commit (R222). -/
def execStateIFinCommit (s : State) : Result :=
  .next
    (complete Code.ok
      (setHs true
        { s with
          dev :=
            { cardType := s.ctx.pendType, mounted := true, lastSector := s.ctx.sectorCount - 1, rdCount := 0,
              wrCount := 0 } }))

end Sys2Proof.Machine
end

