-- ==== Sys2Proof/Machine/Operands.lean ====
section
/-! DEFINITION. Operands: the request's validation and snapshot (spec/46_server.md R293, R294), the read window and
the DMA addresses (R253, R273). -/

namespace Sys2Proof.Machine

/-- `validate()` (R293) for the request kind `k`: `none` is ACCEPT, otherwise the code of the first failing line. -/
def validate (k : Byte) (s : State) : Option (BitVec 3) :=
  if ¬ (k = 1 ∨ k = 2 ∨ k = 3) then some Code.parerr
  else if s.record.device ≠ 0 then some Code.parerr
  else if (k = 2 ∨ k = 3) ∧ s.record.sector > s.dev.lastSector then some Code.parerr
  else if k = 2 ∧ s.record.count = 0 then some Code.parerr
  else if (k = 2 ∨ k = 3) ∧ s.dev.mounted = false then some Code.notInitialized
  else none

/-- The snapshot of R294 and R31, taken whatever the kind. -/
def snapshot (s : State) : Context :=
  { s.ctx with
    snapDev := s.record.device
    snapBuf := s.record.buffer
    snapSector := s.record.sector
    snapOffset := s.record.offset
    snapCount := s.record.count }

/-- The FSM a kind starts (R294). -/
def entryLive (k : Byte) : Live := if k = 1 then .init else if k = 2 then .read else .write

/-- The entry state of the FSM a kind starts (R294). -/
def entryState (k : Byte) : Byte := if k = 1 then Fsm.iEnter else if k = 2 then Fsm.rSend else Fsm.wSend

/-- `accept()` (R294). -/
def accept (k : Byte) (s : State) : State :=
  { s with
    ctx := snapshot s
    record := { s.record with statusBusy := true }
    srv := .busy
    live := entryLive k
    fsm := entryState k }

/-- The server takes up a request of kind `k` (R290, R293, R294, R299). It does so only when idle: a busy server
consumes no request (R298) and the sink does nothing (R297). -/
def takeUp (k : Byte) (s : State) : State :=
  match s.srv with
  | .idle =>
    match validate k s with
    | some c => post c s
    | none => accept k s
  | .busy => s
  | .fatal => s

/-- The window test of R253: `offset ≤ i < offset + count`, the sum exact. -/
def inWindow (c : Context) : Bool :=
  decide (c.snapOffset.toNat ≤ c.idx.toNat) && decide (c.idx.toNat < c.snapOffset.toNat + c.snapCount.toNat)

/-- The address a read stream's byte goes to: `snap_buf + i - snap_offset` modulo 2^32 (R253). -/
def readAddr (c : Context) : Addr := c.snapBuf + c.idx.zeroExtend 32 - c.snapOffset.zeroExtend 32

/-- The address a written block's byte comes from: `snap_buf + idx` modulo 2^32 (R273). -/
def writeAddr (c : Context) : Addr := c.snapBuf + c.idx.zeroExtend 32

end Sys2Proof.Machine
end

