-- ==== Sys2Proof/Machine/ReadFsm.lean ====
section
/-! DEFINITION. The block read FSM: one micro-step per state (spec/44_read_fsm.md R251 to R254). -/

namespace Sys2Proof.Machine

/-- R_SEND (R251). -/
def execStateRSend (s : State) : Result :=
  .next
    (let x := callCmd17 s.ctx.snapSector s
     if x.1 ≠ 0x00 then complete Code.error (release x.2) else goto Fsm.rToken (arm .tRdToken x.2))

/-- R_TOKEN (R252). -/
def execStateRToken (s : State) : Result :=
  .next
    (let x := xchg FILL s
     if x.1 = RD_TOKEN then
       goto Fsm.rData { x.2 with ctx := { x.2.ctx with idx := 0, crcCalc := 0x0000, crcRecv := 0x0000 } }
     else if x.1 = 0xFF ∧ expired x.2 = false then x.2
     else complete Code.error (release x.2))

/-- The byte `b` of index `idx` enters the running CRC or the received trailer (R253, R166). -/
def takeCrc (b : Byte) (c : Context) : Context :=
  if c.idx.toNat < 512 then { c with crcCalc := crc16Upd c.crcCalc b }
  else if c.idx = 512 then { c with crcRecv := b ++ (0x00 : Byte) }
  else { c with crcRecv := c.crcRecv.extractLsb' 8 8 ++ b }

/-- `complete_read()` (R254). -/
def completeRead (s : State) : State :=
  let t := release s
  let mismatch := decide (t.ctx.crcCalc ≠ t.ctx.crcRecv)
  let u :=
    { t with
      dev := { t.dev with rdCount := t.dev.rdCount + 1 }
      diag := { rdCrcCalc := t.ctx.crcCalc, rdCrcRecv := t.ctx.crcRecv, crcMismatch := mismatch } }
  if u.params.crc16Enforce ∧ mismatch then complete Code.error u else complete Code.ok u

/-- The stream's byte is copied when its index lies in the window (R253). -/
def copyByte (b : Byte) (s : State) : State :=
  if inWindow s.ctx then dmaWrite (readAddr s.ctx) b s else s

/-- R_DATA (R253). A DMA write to a refused address faults the tick (R67). -/
def execStateRData (s : State) : Result :=
  if inWindow s.ctx ∧ dmaAdmits s (readAddr s.ctx) = false then .fault (.dmaRefused (readAddr s.ctx))
  else
    .next
      (let x := xchg FILL s
       let t := copyByte x.1 x.2
       let u := { t with ctx := { takeCrc x.1 t.ctx with idx := t.ctx.idx + 1 } }
       if u.ctx.idx = 514 then completeRead u else u)

end Sys2Proof.Machine
end

