-- ==== Sys2Proof/Machine/Requests.lean ====
section
/-! DEFINITION. The host requests: what the tick that takes one up does (spec/46_server.md R291 to R294, R299). What an
accepted request does after that is its FSM's states, one micro-step a tick. -/

namespace Sys2Proof.Machine

/-- NONE: no request is pending and the tick does nothing (R291). -/
def execReqNone (s : State) : Result := .next s

/-- INIT (R293, R294): the one check is `DEVICE`. -/
def execReqInit (s : State) : Result := .next (takeUp 1 s)

/-- READ (R250, R293, R294). -/
def execReqRead (s : State) : Result := .next (takeUp 2 s)

/-- WRITE (R270, R293, R294). -/
def execReqWrite (s : State) : Result := .next (takeUp 3 s)

/-- An invalid kind completes at once with PARERR (R293, R299); likewise the five below. -/
def execInvalidKind04 (k : Byte) (s : State) : Result := .next (takeUp k s)
def execInvalidKind08 (k : Byte) (s : State) : Result := .next (takeUp k s)
def execInvalidKind10 (k : Byte) (s : State) : Result := .next (takeUp k s)
def execInvalidKind20 (k : Byte) (s : State) : Result := .next (takeUp k s)
def execInvalidKind40 (k : Byte) (s : State) : Result := .next (takeUp k s)
def execInvalidKind80 (k : Byte) (s : State) : Result := .next (takeUp k s)

/-- State NONE (code 0x00): no FSM is live, so the tick is the server's. Idle, it takes up the pending request, and with
`KIND` = 0 does nothing (R290, R291). Busy, NONE is a state of no live FSM, and the tick enters the sink (R295, R330).
In the sink it does nothing (R297). -/
def execStateNone (s : State) : Result :=
  match s.srv with
  | .idle => if s.record.kind = 0 then .next s else .next (takeUp s.record.kind s)
  | .busy => .next (raiseFatal s)
  | .fatal => .next s

end Sys2Proof.Machine
end

