-- ==== Sys2Proof/Machine/WriteFsm.lean ====
section
/-! DEFINITION. The block write FSM: one micro-step per state (spec/45_write_fsm.md R271 to R276). -/

namespace Sys2Proof.Machine

/-- W_SEND (R271). -/
def execStateWSend (s : State) : Result :=
  .next
    (let x := callCmd24 s.ctx.snapSector s
     if x.1 ≠ 0x00 then complete Code.error (release x.2) else goto Fsm.wToken x.2)

/-- W_TOKEN (R272). -/
def execStateWToken (s : State) : Result :=
  .next
    (let t := send s.params.wrToken s
     goto Fsm.wData { t with ctx := { t.ctx with idx := 0 } })

/-- W_DATA (R273). A DMA read of a refused address faults the tick (R67). -/
def execStateWData (s : State) : Result :=
  if dmaAdmits s (writeAddr s.ctx) = false then .fault (.dmaRefused (writeAddr s.ctx))
  else
    .next
      (let t := send (dmaRead (writeAddr s.ctx) s) s
       if t.ctx.idx + 1 = 512 then goto Fsm.wCrc { t with ctx := { t.ctx with idx := 0 } }
       else { t with ctx := { t.ctx with idx := t.ctx.idx + 1 } })

/-- W_CRC (R274). -/
def execStateWCrc (s : State) : Result :=
  .next
    (let t := send WR_CRC_BYTE s
     let u := { t with ctx := { t.ctx with idx := t.ctx.idx + 1 } }
     if u.ctx.idx = 2 then goto Fsm.wDresp u else u)

/-- W_DRESP (R275). -/
def execStateWDresp (s : State) : Result :=
  .next
    (let x := xchg FILL s
     if dataAccepted x.1 then goto Fsm.wBusy (arm .tWrBusy x.2) else complete Code.rejected (release x.2))

/-- The exit of the busy wait (R276, R278): release, count, complete. -/
def finishWrite (c : BitVec 3) (s : State) : State :=
  let t := release s
  complete c { t with dev := { t.dev with wrCount := t.dev.wrCount + 1 } }

/-- W_BUSY (R276). -/
def execStateWBusy (s : State) : Result :=
  .next
    (let x := xchg FILL s
     if x.1 ≠ 0x00 then finishWrite Code.ok x.2
     else if expired x.2 then finishWrite Code.busy x.2
     else x.2)

end Sys2Proof.Machine
end

