-- ==== Sys2Proof/Machine/Dispatch.lean ====
section
/-! DEFINITION. One arm per instruction: a host request, a card command or an FSM state (spec/30_encoding.md). -/

namespace Sys2Proof.Machine

def exec (i : Instr) (s : State) : Host.Outcome State Fault Refusal :=
  match i with
  | .reqNone => Sys2Proof.Machine.execReqNone s
  | .reqInit => Sys2Proof.Machine.execReqInit s
  | .reqRead => Sys2Proof.Machine.execReqRead s
  | .reqWrite => Sys2Proof.Machine.execReqWrite s
  | .invalidKind04 k => Sys2Proof.Machine.execInvalidKind04 k s
  | .invalidKind08 k => Sys2Proof.Machine.execInvalidKind08 k s
  | .invalidKind10 k => Sys2Proof.Machine.execInvalidKind10 k s
  | .invalidKind20 k => Sys2Proof.Machine.execInvalidKind20 k s
  | .invalidKind40 k => Sys2Proof.Machine.execInvalidKind40 k s
  | .invalidKind80 k => Sys2Proof.Machine.execInvalidKind80 k s
  | .cmd0 => Sys2Proof.Machine.execCmd0 s
  | .cmd1 => Sys2Proof.Machine.execCmd1 s
  | .cmd8 => Sys2Proof.Machine.execCmd8 s
  | .cmd9 => Sys2Proof.Machine.execCmd9 s
  | .cmd16 => Sys2Proof.Machine.execCmd16 s
  | .cmd17 sector => Sys2Proof.Machine.execCmd17 sector s
  | .cmd24 sector => Sys2Proof.Machine.execCmd24 sector s
  | .cmd55 => Sys2Proof.Machine.execCmd55 s
  | .cmd58 => Sys2Proof.Machine.execCmd58 s
  | .cmd59 => Sys2Proof.Machine.execCmd59 s
  | .acmd41Hcs => Sys2Proof.Machine.execAcmd41Hcs s
  | .acmd41 => Sys2Proof.Machine.execAcmd41 s
  | .stateNone => Sys2Proof.Machine.execStateNone s
  | .stateIEnter => Sys2Proof.Machine.execStateIEnter s
  | .stateIBusReset => Sys2Proof.Machine.execStateIBusReset s
  | .stateIWaitPower => Sys2Proof.Machine.execStateIWaitPower s
  | .stateISendReset => Sys2Proof.Machine.execStateISendReset s
  | .stateICheckVersion => Sys2Proof.Machine.execStateICheckVersion s
  | .stateISendIfCond => Sys2Proof.Machine.execStateISendIfCond s
  | .stateICollectEcho => Sys2Proof.Machine.execStateICollectEcho s
  | .stateIValidateEcho => Sys2Proof.Machine.execStateIValidateEcho s
  | .stateIPollOpCond => Sys2Proof.Machine.execStateIPollOpCond s
  | .stateIReadOcr => Sys2Proof.Machine.execStateIReadOcr s
  | .stateIClassify => Sys2Proof.Machine.execStateIClassify s
  | .stateISelectLegacy => Sys2Proof.Machine.execStateISelectLegacy s
  | .stateIPollLegacy => Sys2Proof.Machine.execStateIPollLegacy s
  | .stateIDisableCrc => Sys2Proof.Machine.execStateIDisableCrc s
  | .stateISetBlklen => Sys2Proof.Machine.execStateISetBlklen s
  | .stateIFinCsdCmd => Sys2Proof.Machine.execStateIFinCsdCmd s
  | .stateIFinCsdToken => Sys2Proof.Machine.execStateIFinCsdToken s
  | .stateIFinCsdData => Sys2Proof.Machine.execStateIFinCsdData s
  | .stateIFinCommit => Sys2Proof.Machine.execStateIFinCommit s
  | .stateRSend => Sys2Proof.Machine.execStateRSend s
  | .stateRToken => Sys2Proof.Machine.execStateRToken s
  | .stateRData => Sys2Proof.Machine.execStateRData s
  | .stateWSend => Sys2Proof.Machine.execStateWSend s
  | .stateWToken => Sys2Proof.Machine.execStateWToken s
  | .stateWData => Sys2Proof.Machine.execStateWData s
  | .stateWCrc => Sys2Proof.Machine.execStateWCrc s
  | .stateWDresp => Sys2Proof.Machine.execStateWDresp s
  | .stateWBusy => Sys2Proof.Machine.execStateWBusy s

end Sys2Proof.Machine
end

