-- ==== Sys2Proof/Machine/Fetch.lean ====
section
/-! DEFINITION. Which instruction the next tick runs: the control point of spec/10_state.md R21 is (`srv`, `fsm`), so an
idle server's instruction is the request in `KIND` (R290, R292) and a busy server's is the live FSM's state (R295). Beside
it, how a table word is placed where the next tick takes it up (log entry 5). -/

namespace Sys2Proof.Machine

/-- The states of the FSM that `live` names (R22, R97). -/
def liveRows (l : Live) : List (Byte × Instr) :=
  match l with
  | .none => []
  | .init => initStateRows
  | .read => readStateRows
  | .write => writeStateRows

/-- The live FSM's state, or none where `fsm` holds a code that is not one (R295). -/
def fetchState (s : State) : Option Instr := lookupState (liveRows s.live) s.fsm

/-- The instruction the next tick runs: none in the sink, and none where a busy server's code is undefined. -/
def fetch (s : State) : Option Instr :=
  match s.srv with
  | .idle => some (decodeRequest s.record.kind)
  | .busy => fetchState s
  | .fatal => none

/-- The server idle with `KIND` = `k`. -/
def placeRequest (k : Byte) (s : State) : State :=
  { s with srv := .idle, live := .none, fsm := Fsm.noneLive, record := { s.record with kind := k }, outside := .script [] }

/-- The FSM that has the state code `c` (R97). -/
def liveOf (c : Byte) : Live :=
  if (lookupState initStateRows c).isSome then .init
  else if (lookupState readStateRows c).isSome then .read
  else if (lookupState writeStateRows c).isSome then .write
  else .none

/-- The server busy in the state `c`. -/
def placeState (c : Byte) (s : State) : State :=
  { s with srv := .busy, live := liveOf c, fsm := c, outside := .script [] }

/-- The server busy in the state whose micro-step sends the command first (R86 "sent by"; CMD55 is the prefix of
ACMD41, R122), with the context that makes it send this one. Any other word changes nothing. -/
def placeCommand (i : Instr) (s : State) : State :=
  match i with
  | .cmd0 => placeState Fsm.iSendReset s
  | .cmd1 => placeState Fsm.iPollLegacy { s with ctx := { s.ctx with pollCmd := Cmd.cmd1 } }
  | .cmd8 => placeState Fsm.iCheckVersion s
  | .cmd9 => placeState Fsm.iFinCsdCmd s
  | .cmd16 => placeState Fsm.iSetBlklen s
  | .cmd17 a => placeState Fsm.rSend { s with ctx := { s.ctx with snapSector := a } }
  | .cmd24 a => placeState Fsm.wSend { s with ctx := { s.ctx with snapSector := a } }
  | .cmd55 => placeState Fsm.iSelectLegacy s
  | .cmd58 => placeState Fsm.iReadOcr { s with ctx := { s.ctx with ocrIdx := 0 } }
  | .cmd59 => placeState Fsm.iDisableCrc s
  | .acmd41Hcs => placeState Fsm.iPollOpCond s
  | .acmd41 => placeState Fsm.iSelectLegacy s
  | _ => s

/-- The table word `w` placed so that the next step runs it (log entries 1, 5 and 13). -/
def placeWord (nbits w : Nat) (s : State) : State :=
  match tableFormat nbits w with
  | some .request8 => placeRequest (BitVec.ofNat 8 w) s
  | some .state8 => placeState (BitVec.ofNat 8 w) s
  | some .frame48 =>
    match decode .frame48 (tableBytes nbits w) with
    | .ok i _ => placeCommand i s
    | .reject _ => s
  | none => s

end Sys2Proof.Machine
end

