-- ==== Sys2Proof/Machine/Host.lean ====
section
/-! DEFINITION. The host's register accesses (spec/46_server.md R310 to R313, spec/10_state.md R35) and reset
(spec/70_reset_and_hazards.md R350, R351). -/

namespace Sys2Proof.Machine

/-- The sixteen host registers (R35). -/
inductive HostReg where
  | kind
  | device
  | buffer
  | sector
  | offset
  | count
  | status
  | error
  | devstat
  | lastSector
  | readCount
  | writeCount
  | rdCrc
  | diag
  | reserved38
  | reserved3C
  deriving DecidableEq, Repr

/-- The register at a word index, that is at offset `4 * index` (R35). -/
def hostRegAt (index : Nat) : HostReg :=
  match index with
  | 0 => .kind
  | 1 => .device
  | 2 => .buffer
  | 3 => .sector
  | 4 => .offset
  | 5 => .count
  | 6 => .status
  | 7 => .error
  | 8 => .devstat
  | 9 => .lastSector
  | 10 => .readCount
  | 11 => .writeCount
  | 12 => .rdCrc
  | 13 => .diag
  | 14 => .reserved38
  | _ => .reserved3C

/-- The offset of an address from `REG_BASE`, modulo 2^32 (R35, R66). -/
def hostOffset (addr : Addr) (s : State) : Nat := (addr - s.params.regBase).toNat

/-- An access that starts in the register block, offsets 0x00 to 0x3F (R60). -/
def inRegBlock (addr : Addr) (s : State) : Bool := decide (hostOffset addr s < 0x40)

/-- An aligned 32-bit access (R63, R64); the offset decides the alignment (log entry 22). -/
def hostAligned (addr : Addr) (size : Nat) (s : State) : Bool :=
  decide (size = 4) && decide (hostOffset addr s % 4 = 0)

/-- The register an address selects. -/
def hostReg (addr : Addr) (s : State) : HostReg := hostRegAt (hostOffset addr s / 4)

/-- What a read of a register returns (R35, R310). -/
def hostWord (r : HostReg) (s : State) : Word :=
  match r with
  | .kind => s.record.kind.zeroExtend 32
  | .device => s.record.device.zeroExtend 32
  | .buffer => s.record.buffer
  | .sector => s.record.sector
  | .offset => s.record.offset.zeroExtend 32
  | .count => s.record.count.zeroExtend 32
  | .status => statusWord s
  | .error => s.record.error.zeroExtend 32
  | .devstat => devstatWord s
  | .lastSector => s.dev.lastSector
  | .readCount => s.dev.rdCount
  | .writeCount => s.dev.wrCount
  | .rdCrc => rdCrcWord s
  | .diag => diagWord s
  | .reserved38 => 0
  | .reserved3C => 0

/-- What a write of a word does to the record: the low bits a request field covers are stored, every other register
ignores the write (R35, R311, R313). -/
def storeField (r : HostReg) (w : Word) (c : Record) : Record :=
  match r with
  | .kind => { c with kind := w.extractLsb' 0 8 }
  | .device => { c with device := w.extractLsb' 0 8 }
  | .buffer => { c with buffer := w }
  | .sector => { c with sector := w }
  | .offset => { c with offset := w.extractLsb' 0 16 }
  | .count => { c with count := w.extractLsb' 0 16 }
  | .status => c
  | .error => c
  | .devstat => c
  | .lastSector => c
  | .readCount => c
  | .writeCount => c
  | .rdCrc => c
  | .diag => c
  | .reserved38 => c
  | .reserved3C => c

/-- HOST reads (R310): no side effect on the block. The word goes to the host (log entry 9). -/
def hostReadStep (addr : Addr) (size : Nat) (s : State) : Result :=
  if inRegBlock addr s = false then .refused (.outsideBlock addr)
  else if hostAligned addr size s = false then .fault (.hostAccessRefused addr size)
  else .next { s with hostData := hostWord (hostReg addr s) s }

/-- HOST writes (R311 to R313), busy or not. -/
def hostWriteStep (addr : Addr) (size : Nat) (w : Word) (s : State) : Result :=
  if inRegBlock addr s = false then .refused (.outsideBlock addr)
  else if hostAligned addr size s = false then .fault (.hostAccessRefused addr size)
  else .next { s with record := storeField (hostReg addr s) w s.record }

/-- Reset (R350): every piece of the block's state takes R47's value. System memory and the card are not touched
(R351), nor are the parameters, the trace and the environment (log entry 16). -/
def resetBlock (s : State) : State :=
  { State.reset with
    mem := s.mem
    params := s.params
    bus := s.bus
    card := s.card
    polls := s.polls
    draws := s.draws
    outside := s.outside
    hostData := s.hostData }

end Sys2Proof.Machine
end

