-- ==== Sys2Proof/Machine/Server.lean ====
section
/-! DEFINITION. The server step (spec/46_server.md R290, R295, R297) and one step of each agent (R16). -/

namespace Sys2Proof.Machine

/-- One pulse of `tick` (R290): the instruction at the control point, if there is one. Where there is none, a busy server
holds a code that is not a state of the live FSM and enters the sink (R295, R330), and a server in the sink does nothing
(R297). -/
def tick (s : State) : Result :=
  match fetch s with
  | some i => exec i s
  | none => if s.srv = .busy then .next (raiseFatal s) else .next s

/-- One step of the agent the event names (R16). -/
def perform (e : Event) (s : State) : Result :=
  match e with
  | .tick => tick s
  | .hostRead addr size => hostReadStep addr size s
  | .hostWrite addr size w => hostWriteStep addr size w s
  | .expire => .next (expirePhase s)
  | .memWrite addr v => .next (dmaWrite addr v s)
  | .reset => .next (resetBlock s)

/-- The next agent step: the next scripted event, or a tick when the script is empty, or the environment's choice. -/
def nextEvent (s : State) : Event :=
  match s.outside with
  | .script [] => .tick
  | .script (e :: _) => e
  | .free n => Config.environment n

/-- The state with that agent step taken off the script or off the environment's choices. -/
def takeEvent (s : State) : State :=
  match s.outside with
  | .script [] => s
  | .script (_ :: rest) => { s with outside := .script rest }
  | .free n => { s with outside := .free (n + 1) }

end Sys2Proof.Machine
end

