-- ==== Sys2Proof/Machine/Step.lean ====
section
/-! DEFINITION. One step of the machine: one step of one agent (spec/00_scope.md R16), and the placing of a table word
where the next step runs it. -/

namespace Sys2Proof.Machine

/-- One step of the next agent (R16; log entry 2). -/
def step (s : State) : Host.Outcome State Fault Refusal := perform (nextEvent s) (takeEvent s)

/-- `s` with the table word `w` placed so that the next step runs it (log entries 1 and 5). -/
def State.withFetchWord (s : State) (nbits w : Nat) : State := placeWord nbits w s

end Sys2Proof.Machine
end

