-- ==== Sys2Proof/Safety.lean ====
section
/-! DEFINITION. What counts as a safe state and a safe step, in the terms the claims use: the invariants the spec states
of every reachable state, and what a bus transaction may change. -/

namespace Sys2Proof

open Machine

/-- R22: the server is idle exactly when no FSM is live, and then the state tag is NONE; it is busy exactly when one is
live, and then `fsm` is one of its states. It follows that the server is not in the sink. -/
def ControlInv (s : State) : Prop :=
  (s.srv = .idle ↔ s.live = .none) ∧ (s.srv = .busy ↔ s.live ≠ .none) ∧ (s.live = .none → s.fsm = 0x00) ∧
    (s.live ≠ .none → (fetchState s).isSome)

/-- R24: `STATUS.BUSY` is 1 while a request is accepted and running, `STATUS.FATAL` exactly in the sink. -/
def StatusInv (s : State) : Prop :=
  (s.record.statusBusy = true ↔ s.srv = .busy) ∧ (s.record.statusFatal = true ↔ s.srv = .fatal)

/-- R30: the byte counters stay in the range their state uses. -/
def IndexInv (s : State) : Prop :=
  (s.fsm = Fsm.iCollectEcho → s.ctx.echoIdx < 4) ∧ (s.fsm = Fsm.iReadOcr → s.ctx.ocrIdx ≤ 4) ∧
    (s.fsm = Fsm.iFinCsdData → s.ctx.csdIdx < 18) ∧ (s.fsm = Fsm.rData → s.ctx.idx < 514) ∧
    (s.fsm = Fsm.wData → s.ctx.idx < 512) ∧ (s.fsm = Fsm.wCrc → s.ctx.idx < 2)

/-- R222, R234, R259, R280: the card is deselected whenever no request runs, and in the commit state. -/
def ReleasedInv (s : State) : Prop := s.live = .none ∨ s.fsm = Fsm.iFinCommit → s.cs = false

/-- A card-type code that a detected card has (R96). -/
def isDetectedType (t : Byte) : Prop := t = CardType.mmc ∨ t = CardType.sd1 ∨ t = CardType.sd2 ∨ t = CardType.sd2Block

/-- R96, R212, R215: from the card's classification to the commit, `pend_type` is a detected card's code and, on the
legacy branch, `poll_cmd` is ACMD41 or CMD1; a mounted descriptor holds a detected card's code. -/
def CardTypeInv (s : State) : Prop :=
  (Fsm.iPollLegacy ≤ s.fsm ∧ s.fsm ≤ Fsm.iFinCommit → isDetectedType s.ctx.pendType) ∧
    (s.fsm = Fsm.iPollLegacy → s.ctx.pollCmd = Cmd.acmd41 ∨ s.ctx.pollCmd = Cmd.cmd1) ∧
    (s.dev.mounted = true → isDetectedType s.dev.cardType)

/-- R95, R321: `ERROR` holds a code some rule produces; NO_RESPONSE (6) and 7 never. -/
def CodeInv (s : State) : Prop := s.record.error ≤ 5

/-- R230, R329: past Enter, an initialization has taken at most `INIT_RETRIES` restarts. -/
def RetryInv (s : State) : Prop :=
  s.live = .init → s.fsm ≠ Fsm.iEnter → s.ctx.retry ≤ s.params.initRetries

/-- All of them, and memory in its canonical form. -/
structure Inv (s : State) : Prop where
  memory   : memWf s.mem = true
  control  : ControlInv s
  status   : StatusInv s
  index    : IndexInv s
  released : ReleasedInv s
  cardType : CardTypeInv s
  code     : CodeInv s
  retry    : RetryInv s

/-- A safe step: it has a successor. -/
def Safe (o : Result) : Prop := ∃ t, o = .next t

/-- `s` with the bus side of `t`: the select line, the bus history and what the CARD agent and the command timer have
still to say. This is all a card command may change (R120). -/
def withBus (s t : State) : State :=
  { s with cs := t.cs, bus := t.bus, card := t.card, polls := t.polls, draws := t.draws }

/-- The answer of the last exchange in the bus history: after a card command, its result (R87, R125). -/
def lastAnswer (s : State) : Option Byte := s.bus.getLast?.map (·.answer)

end Sys2Proof
end

