-- ==== Sys2Proof/Certificates/Slice0/Obligations.lean ====
section
/-! DEFINITION. The statements for the provers, each from numbered rules of the spec. State codes, result codes and card
types are written as the spec's numbers (R95 to R97). `Claims` holds what several statements share. -/

namespace Sys2Proof.Claims

open Machine

/-- `i` is a card command and, run at `s`, answers `s1` with result `r`: the last answer on the bus (R87, R125). -/
def Answers (i : Instr) (s s1 : State) (r : Byte) : Prop := exec i s = .next s1 ∧ lastAnswer s1 = some r

/-- `s` after one exchange of `out` that the card answered with its next answer: nothing but the bus side changes. -/
def exchanged (out : Byte) (s : State) : State :=
  { s with bus := s.bus ++ [⟨s.cs, s.hs, out, cardAnswer s⟩], card := s.card.tail, draws := s.draws + 1 }

/-- What `complete(c)` leaves (R296). -/
def completed (c : BitVec 3) (s : State) : State :=
  { s with
    record := { s.record with error := c, kind := 0, statusBusy := false }, srv := .idle, live := .none, fsm := 0x00 }

/-- What `release()` leaves (R127): the card deselected, one fill byte exchanged. -/
def released (s : State) : State := exchanged 0xFF { s with cs := false }

/-- What `post(c)` leaves (R299). -/
def posted (c : BitVec 3) (s : State) : State := { s with record := { s.record with error := c, kind := 0 } }

/-- What `accept()` leaves (R294) for a request that starts the FSM `l` in the state `code`. -/
def accepted (l : Live) (code : Byte) (s : State) : State :=
  { s with
    ctx :=
      { s.ctx with
        snapDev := s.record.device, snapBuf := s.record.buffer, snapSector := s.record.sector,
        snapOffset := s.record.offset, snapCount := s.record.count }
    record := { s.record with statusBusy := true }
    srv := .busy
    live := l
    fsm := code }

/-- What the protocol-error procedure leaves (R230). -/
def protocolErrored (s : State) : State :=
  if s.ctx.retry < s.params.initRetries then
    { s with ctx := { s.ctx with retry := s.ctx.retry + 1 }, fsm := 0x11 }
  else completed 1 (released s)

/-- A micro-step of a live FSM: an instruction of the table's state8 rows other than STATE_NONE. -/
def isMicroStep (i : Instr) : Prop := formatOf i = .state8 ∧ i ≠ .stateNone

/-- The CSD as one number, `csd[0]` holding bits 127:120 (R98). -/
def csdNumber (csd : Vector Byte 18) : Nat :=
  (List.range 16).foldl (fun n k => 256 * n + (csd[k]?.getD 0).toNat) 0

/-- Bits `hi` down to `lo` of a number (R9). -/
def bits (n hi lo : Nat) : Nat := n / 2 ^ lo % 2 ^ (hi - lo + 1)

/-- The register map of R35: the word a host read at an offset returns. -/
def registerWord (offset : Nat) (s : State) : Nat :=
  match offset with
  | 0x00 => s.record.kind.toNat
  | 0x04 => s.record.device.toNat
  | 0x08 => s.record.buffer.toNat
  | 0x0C => s.record.sector.toNat
  | 0x10 => s.record.offset.toNat
  | 0x14 => s.record.count.toNat
  | 0x18 =>
    s.record.statusBusy.toNat + 2 * (decide (s.record.kind ≠ 0)).toNat + 4 * s.record.statusFatal.toNat
  | 0x1C => s.record.error.toNat
  | 0x20 => s.dev.mounted.toNat + 2 ^ 8 * s.dev.cardType.toNat
  | 0x24 => s.dev.lastSector.toNat
  | 0x28 => s.dev.rdCount.toNat
  | 0x2C => s.dev.wrCount.toNat
  | 0x30 => s.diag.rdCrcRecv.toNat + 2 ^ 16 * s.diag.rdCrcCalc.toNat
  | 0x34 =>
    s.diag.crcMismatch.toNat + 2 * s.cs.toNat + 4 * s.hs.toNat + 2 ^ 8 * s.fsm.toNat + 2 ^ 16 * s.ctx.retry.toNat
  | _ => 0

/-- The record after a host write of a word at an offset (R311, R313). -/
def recordWritten (offset : Nat) (w : Word) (c : Record) : Record :=
  match offset with
  | 0x00 => { c with kind := BitVec.ofNat 8 w.toNat }
  | 0x04 => { c with device := BitVec.ofNat 8 w.toNat }
  | 0x08 => { c with buffer := w }
  | 0x0C => { c with sector := w }
  | 0x10 => { c with offset := BitVec.ofNat 16 w.toNat }
  | 0x14 => { c with count := BitVec.ofNat 16 w.toNat }
  | _ => c

/-- The table of R47. -/
def AtReset (s : State) : Prop :=
  (s.srv = .idle ∧ s.live = .none ∧ s.fsm = 0x00) ∧
    (s.record.kind = 0 ∧ s.record.device = 0 ∧ s.record.buffer = 0 ∧ s.record.sector = 0 ∧ s.record.offset = 0 ∧
      s.record.count = 0) ∧
    (s.record.statusBusy = false ∧ s.record.statusFatal = false ∧ s.record.error = 0) ∧
    (s.dev.mounted = false ∧ s.dev.cardType = 0x00 ∧ s.dev.lastSector = 0 ∧ s.dev.rdCount = 0 ∧
      s.dev.wrCount = 0) ∧
    (s.ctx.snapDev = 0 ∧ s.ctx.snapBuf = 0 ∧ s.ctx.snapSector = 0 ∧ s.ctx.snapOffset = 0 ∧ s.ctx.snapCount = 0 ∧
      s.ctx.retry = 0 ∧ s.ctx.echo = Vector.replicate 4 0 ∧ s.ctx.echoIdx = 0 ∧ s.ctx.ocr = Vector.replicate 4 0 ∧
      s.ctx.ocrIdx = 0 ∧ s.ctx.pendType = 0 ∧ s.ctx.pollCmd = 0 ∧ s.ctx.csd = Vector.replicate 18 0 ∧
      s.ctx.csdIdx = 0 ∧ s.ctx.sectorCount = 0 ∧ s.ctx.idx = 0 ∧ s.ctx.crcCalc = 0 ∧ s.ctx.crcRecv = 0) ∧
    (s.diag.crcMismatch = false ∧ s.diag.rdCrcCalc = 0 ∧ s.diag.rdCrcRecv = 0) ∧
    s.cs = false ∧ s.hs = false ∧ s.phase = .stopped

/-- The index `i` of a read stream lies in the request's window (R253). -/
def InWindow (c : Context) (i : Nat) : Prop :=
  c.snapOffset.toNat ≤ i ∧ i < c.snapOffset.toNat + c.snapCount.toNat

/-- `s` with other request fields in its record. -/
def withRequest (s : State) (k d : Byte) (b sec : BitVec 32) (o n : BitVec 16) : State :=
  { s with record := { s.record with kind := k, device := d, buffer := b, sector := sec, offset := o, count := n } }

/-- The two states differ at most in the record's request fields. -/
def SameButRequest (t t' : State) : Prop :=
  t' = withRequest t t'.record.kind t'.record.device t'.record.buffer t'.record.sector t'.record.offset
    t'.record.count

end Sys2Proof.Claims

open Sys2Proof Sys2Proof.Machine Sys2Proof.Claims

/-! ## Encodings -/

/-- R80, R83, R86, R97, R101: decoding an encoded well-formed instruction gives it back, whatever follows it. -/
def Obligations.DecodeInvertsEncode : Prop :=
  ∀ (i : Instr) (rest : List Byte), wellFormed i = true → decode (formatOf i) (encode i ++ rest) = .ok i rest

/-- R80, R83, R86, R97: what a decoder accepts is the encoding of the well-formed instruction it answers. -/
def Obligations.EncodeInvertsDecode : Prop :=
  ∀ (f : Format) (bytes rest : List Byte) (i : Instr), decode f bytes = .ok i rest →
    wellFormed i = true ∧ formatOf i = f ∧ bytes = encode i ++ rest

/-- A few table words, and three that are none. The frames are R86's; the state code 0x23 is none of R97's. That a bare
8-bit word is read as a state code where it is a non-zero one of R97 (0x13, 0x45), and as a request kind otherwise (0x02,
0x80), is the model's choice, log entry 1: by R80 the byte 0x13 in `KIND` is an invalid kind. That a frame's word has the
first wire byte in bits 47:40 is the model's reading, log entry 19. -/
def Obligations.TableWordsDecode : Prop :=
  decodeTableWord 8 0x02 = some .reqRead ∧ decodeTableWord 8 0x80 = some (.invalidKind80 0x80) ∧
    decodeTableWord 8 0x13 = some .stateISendReset ∧ decodeTableWord 8 0x45 = some .stateWBusy ∧
    decodeTableWord 48 0x48000001AA87 = some .cmd8 ∧ decodeTableWord 48 0x511234567801 = some (.cmd17 0x12345678) ∧
    decodeTableWord 48 0x400000000001 = none ∧ decodeTableWord 48 0x020000000001 = none ∧
    decode .state8 [0x23] = .reject .undefinedState

/-- R83, R84, R85: the six bytes of every frame the codec builds, the argument big-endian in bytes 1 to 4, and the two
frames whose CRC byte is computed. -/
def Obligations.FrameBytes : Prop :=
  frame 0 0 = [0x40, 0x00, 0x00, 0x00, 0x00, 0x95] ∧ frame 8 0x000001AA = [0x48, 0x00, 0x00, 0x01, 0xAA, 0x87] ∧
  ∀ (n : BitVec 6) (arg : BitVec 32),
    frame n arg =
      [BitVec.ofNat 8 (0x40 + n.toNat), BitVec.ofNat 8 (arg.toNat / 2 ^ 24), BitVec.ofNat 8 (arg.toNat / 2 ^ 16),
       BitVec.ofNat 8 (arg.toNat / 2 ^ 8), BitVec.ofNat 8 arg.toNat,
       if n = 0 ∨ n = 8 then BitVec.ofNat 8 (2 * (crc7 ((frame n arg).take 5)).toNat + 1) else 0x01]

/-! ## CRC -/

/-- R162: `crc7` of nothing is 0; it is linear; the message bits followed by the CRC bits leave a zero register. -/
def Obligations.Crc7Properties : Prop :=
  crc7 [] = 0 ∧
    (∀ a b : List Byte, a.length = b.length → crc7 (List.zipWith (· ^^^ ·) a b) = crc7 a ^^^ crc7 b) ∧
    (∀ m : List Byte, [6, 5, 4, 3, 2, 1, 0].foldl (fun c i => crc7Bit c ((crc7 m).getLsbD i)) (crc7 m) = 0)

/-- R167: `crc16` of nothing is 0, of any number of zero bytes 0, of a block and its own trailer 0. -/
def Obligations.Crc16Properties : Prop :=
  crc16 [] = 0 ∧ (∀ n : Nat, crc16 (List.replicate n 0) = 0) ∧
    (∀ m : List Byte, crc16 (m ++ [(crc16 m).extractLsb' 8 8, (crc16 m).extractLsb' 0 8]) = 0)

/-! ## Capacity -/

/-- R98, R181, R182, R183: the sector count from the CSD's numbered bits, structure 1 as a newer card, any other as an
older one. -/
def Obligations.CapacityFromCsdBits : Prop :=
  ∀ (divide : Bool) (csd : Vector Byte 18),
    (decodeCsd divide csd).toNat =
      (if bits (csdNumber csd) 127 126 = 1 then (bits (csdNumber csd) 69 48 + 1) * 1024
       else
        (bits (csdNumber csd) 73 62 + 1) *
            2 ^ (bits (csdNumber csd) 49 47 + 2 + bits (csdNumber csd) 83 80) / (if divide then 512 else 1)) %
        2 ^ 32

/-- R182, R185: a newer card's sector count is zero exactly when its size field is 0x3FFFFF, and does not wrap
otherwise. -/
def Obligations.NewCardCapacityWrapsOnlyAtTheTop : Prop :=
  ∀ (divide : Bool) (csd : Vector Byte 18), csdStructure csd = 1 →
    (csdSizeV2 csd = 0x3FFFFF → decodeCsd divide csd = 0) ∧
      (csdSizeV2 csd ≠ 0x3FFFFF →
        (decodeCsd divide csd).toNat = ((csdSizeV2 csd).toNat + 1) * 1024 ∧ decodeCsd divide csd ≠ 0)

/-! ## The bus and the codec -/

/-- R41, R127: an exchange is one event with the lines as they stand, whatever `cs` is, and a scripted card's answer is
the one it lists (log entry 3); releasing deselects and exchanges one fill byte. -/
def Obligations.ExchangesAreRecorded : Prop :=
  ∀ (out : Byte) (s : State),
    (xchg out s).2 = exchanged out s ∧ (xchg out s).1 = cardAnswer s ∧
      (∀ b rest, s.card = b :: rest → cardAnswer s = b) ∧ release s = released s

/-- R87, R124: with a budget of `n + 1` polls, at least one and at most `n + 1` fill bytes are exchanged; every answer but
the last has bit 7 set; the last is returned; it has bit 7 set only when the budget is used up. The budget stands for the timer's draws
(R44; log entry 4). -/
def Obligations.ResponsePollStops : Prop :=
  ∀ (n : Nat) (s : State),
    ∃ (polled : List Byte) (r : Byte),
      (pollResponse n s).1 = r ∧
        (pollResponse n s).2.bus =
          s.bus ++ polled.map (fun a => ⟨s.cs, s.hs, 0xFF, a⟩) ++ [⟨s.cs, s.hs, 0xFF, r⟩] ∧
        (∀ b ∈ polled, 0x80 ≤ b) ∧ polled.length ≤ n ∧ (0x80 ≤ r → polled.length = n)

/-- R123, R124, R140 to R149: a command that is no ACMD makes `2 + 6 + m` exchanges, `m ≥ 1`: the idle pulse, its frame as
spec/opcode_table.json spells it, the polls. The last answer is the result; the card stays selected; nothing but the bus
side changes. -/
def Obligations.CommandSendsItsFrame : Prop :=
  ∀ (i : Instr) (s : State), formatOf i = .frame48 → i ≠ .acmd41 → i ≠ .acmd41Hcs →
    ∃ (t : State) (a0 a1 r : Byte) (answers polled : List Byte),
      exec i s = .next t ∧ answers.length = 6 ∧ (∀ b ∈ polled, 0x80 ≤ b) ∧
        t.bus =
          s.bus ++ [⟨false, s.hs, 0xFF, a0⟩, ⟨true, s.hs, 0xFF, a1⟩] ++
            List.zipWith (fun o a => ⟨true, s.hs, o, a⟩) (encode i) answers ++
            polled.map (fun a => ⟨true, s.hs, 0xFF, a⟩) ++ [⟨true, s.hs, 0xFF, r⟩] ∧
        lastAnswer t = some r ∧ t.cs = true ∧ t = withBus s t

/-- R122, R150: an ACMD first sends CMD55 as a complete command; on a result above 1 it ends there, and otherwise sends
its own frame with its own select sequence and poll. -/
def Obligations.AcmdPrefixShortCircuits : Prop :=
  ∀ (i : Instr) (s : State), (i = .acmd41 ∨ i = .acmd41Hcs) →
    ∃ (s1 : State) (p : Byte), Answers .cmd55 s s1 p ∧
      (p > 1 → exec i s = .next s1) ∧
      (p ≤ 1 →
        ∃ (t : State) (a0 a1 r : Byte) (answers polled : List Byte),
          exec i s = .next t ∧ answers.length = 6 ∧ (∀ b ∈ polled, 0x80 ≤ b) ∧
            t.bus =
              s1.bus ++ [⟨false, s.hs, 0xFF, a0⟩, ⟨true, s.hs, 0xFF, a1⟩] ++
                List.zipWith (fun o a => ⟨true, s.hs, o, a⟩) (encode i) answers ++
                polled.map (fun a => ⟨true, s.hs, 0xFF, a⟩) ++ [⟨true, s.hs, 0xFF, r⟩] ∧
            lastAnswer t = some r ∧ t.cs = true ∧ t = withBus s1 t)

/-- R120, R125: every card command completes, leaves the card selected, only adds to the bus history, and writes no
register, context field or memory. Its result is the last answer in the bus history (log entry 13). -/
def Obligations.CommandsTouchOnlyTheBus : Prop :=
  ∀ (i : Instr) (s : State), formatOf i = .frame48 →
    ∃ (t : State) (r : Byte), Answers i s t r ∧ t = withBus s t ∧ t.cs = true ∧ ∃ more, t.bus = s.bus ++ more

/-! ## The server -/

/-- When the control point holds an instruction, a tick runs it: an idle server's is the request in `KIND`, a busy
server's the live FSM's state. The step only takes the tick off the schedule first (R290, R295). -/
def Obligations.StepRunsTheDecodedInstruction : Prop :=
  ∀ (s : State) (i : Instr), nextEvent s = .tick →
    (s.srv = .idle → decode .request8 [s.record.kind] = .ok i [] → step s = exec i (takeEvent s)) ∧
      (s.srv = .busy → s.live ≠ .none → decode .state8 [s.fsm] = .ok i [] → liveOf s.fsm = s.live →
        step s = exec i (takeEvent s))

/-- R291: idle with `KIND` = 0, a tick does nothing, read as the request NONE or as the state NONE. -/
def Obligations.IdleTick : Prop :=
  ∀ s : State,
    exec .reqNone s = .next s ∧
      (s.srv = .idle → s.record.kind = 0 →
        exec .stateNone s = .next s ∧ (nextEvent s = .tick → step s = .next (takeEvent s)))

/-- The row STATE_NONE, whose code is read in `fsm` when no FSM is live (R97), run at any state: the server's own tick,
idle (R290), busy with a code of no FSM (R295, R330), and in the sink (R297). That the row means this tick is the model's
reading (log entry 20). -/
def Obligations.StateNoneRunsTheServer : Prop :=
  ∀ s : State,
    (s.srv = .idle → exec .stateNone s = exec (decodeRequest s.record.kind) s) ∧
      (s.srv = .busy →
        exec .stateNone s = .next { s with srv := .fatal, record := { s.record with statusFatal := true } }) ∧
      (s.srv = .fatal → exec .stateNone s = .next s)

/-- R293, R294, R299: what the idle server does with a pending request of kind `k`, in the order of the checks. The kinds
1, 2 and 3 are INIT, READ and WRITE; every other one is of an invalid-kind row. -/
def Obligations.RequestTakenUp : Prop :=
  ∀ (k : Byte) (i : Instr) (s : State), s.srv = .idle → k ≠ 0 →
    (k = 1 ∧ i = .reqInit ∨ k = 2 ∧ i = .reqRead ∨ k = 3 ∧ i = .reqWrite ∨ 3 < k ∧ i = decodeRequest k) →
    exec i s =
      .next
        (if 3 < k then posted 3 s
         else if s.record.device ≠ 0 then posted 3 s
         else if 1 < k ∧ s.dev.lastSector < s.record.sector then posted 3 s
         else if k = 2 ∧ s.record.count = 0 then posted 3 s
         else if 1 < k ∧ s.dev.mounted = false then posted 1 s
         else if k = 1 then accepted .init 0x10 s
         else if k = 2 then accepted .read 0x30 s
         else accepted .write 0x40 s)

/-- R80, R293, R299: each row of invalid kinds completes at once with PARERR when the server is idle, without bus I/O. -/
def Obligations.InvalidKindsPostParerr : Prop :=
  ∀ (i : Instr) (k : Byte) (s : State), s.srv = .idle → wellFormed i = true →
    (i = .invalidKind04 k ∨ i = .invalidKind08 k ∨ i = .invalidKind10 k ∨ i = .invalidKind20 k ∨
      i = .invalidKind40 k ∨ i = .invalidKind80 k) →
    exec i s = .next (posted 3 s)

/-- R298: while the server is busy the control point never holds a request, so none is validated or accepted. -/
def Obligations.BusyServerRunsOnlyItsFsm : Prop :=
  ∀ (s : State) (i : Instr), s.srv = .busy → fetch s = some i →
    isMicroStep i ∧ encode i = [s.fsm] ∧ liveOf s.fsm = s.live

/-- R296, R328: a micro-step either goes on, the server and the record as they were, or completes: it posts a code, clears
`KIND` and BUSY, and the server is idle with no FSM live. -/
def Obligations.MicroStepGoesOnOrCompletes : Prop :=
  ∀ (i : Instr) (s t : State), isMicroStep i → exec i s = .next t →
    (t.srv = s.srv ∧ t.live = s.live ∧ t.record = s.record) ∨
      (t.srv = .idle ∧ t.live = .none ∧ t.fsm = 0x00 ∧
        ∃ c, t.record = { s.record with error := c, kind := 0, statusBusy := false })

/-- R31, R312: the live FSM reads only the snapshot. Other request fields in the record change no micro-step: it answers
the same, but for those fields themselves, and faults alike. -/
def Obligations.RunningRequestIgnoresTheRecord : Prop :=
  ∀ (i : Instr) (s : State) (k d : Byte) (b sec : BitVec 32) (o n : BitVec 16), isMicroStep i →
    (∀ t, exec i s = .next t →
      ∃ t', exec i (withRequest s k d b sec o n) = .next t' ∧ SameButRequest t t' ∧
        t'.record.device = d ∧ t'.record.buffer = b ∧ t'.record.sector = sec ∧ t'.record.offset = o ∧
        t'.record.count = n) ∧
      (∀ f, exec i s = .fault f → exec i (withRequest s k d b sec o n) = .fault f)

/-- R297: in the sink a tick does nothing, and only reset leaves it. -/
def Obligations.SinkIgnoresTicks : Prop :=
  ∀ s : State, s.srv = .fatal →
    (nextEvent s = .tick → step s = .next (takeEvent s)) ∧
      (∀ t, nextEvent s ≠ .reset → step s = .next t → t.srv = .fatal)

/-- R295, R330: a busy server whose `fsm` is not a state of the live FSM enters the sink at the next tick, everything else
keeping its value. -/
def Obligations.UndefinedStateEntersTheSink : Prop :=
  ∀ s : State, s.srv = .busy → liveOf s.fsm ≠ s.live ∨ s.live = .none → nextEvent s = .tick →
    step s = .next { takeEvent s with srv := .fatal, record := { s.record with statusFatal := true } }

/-! ## The host, the timer, reset -/

/-- R35, R310: an aligned 32-bit host read returns the register's present fields, RES0 bits 0, and has no side effect.
The word stands in `hostData`, the model's own field (log entry 9); the offset decides the alignment (log entry 22). -/
def Obligations.HostReadsTheRegisterMap : Prop :=
  ∀ (s : State) (offset : Nat), offset < 0x40 → offset % 4 = 0 →
    nextEvent s = .hostRead (s.params.regBase + BitVec.ofNat 32 offset) 4 →
    step s = .next { takeEvent s with hostData := BitVec.ofNat 32 (registerWord offset s) }

/-- R311, R313, R312: an aligned 32-bit host write, busy or not, stores the low bits of a request field; any other
register ignores it. The offset decides the alignment (log entry 22). -/
def Obligations.HostWritesTheRequestFields : Prop :=
  ∀ (s : State) (offset : Nat) (w : Word), offset < 0x40 → offset % 4 = 0 →
    nextEvent s = .hostWrite (s.params.regBase + BitVec.ofNat 32 offset) 4 w →
    step s = .next { takeEvent s with record := recordWritten offset w s.record }

/-- R63, R313: a host access in the register block that is not an aligned 32-bit access faults; one outside the block is
the platform's, and the model refuses it (its choice, log entry 10; alignment: log entry 22). -/
def Obligations.OtherHostAccessesAreRefused : Prop :=
  ∀ (s : State) (addr : Addr) (size : Nat) (w : Word),
    (nextEvent s = .hostRead addr size ∨ nextEvent s = .hostWrite addr size w) →
    ((addr - s.params.regBase).toNat < 0x40 → ¬ (size = 4 ∧ (addr - s.params.regBase).toNat % 4 = 0) →
      step s = .fault (.hostAccessRefused addr size)) ∧
      (0x40 ≤ (addr - s.params.regBase).toNat → step s = .refused (.outsideBlock addr))

/-- R43, R16: TIME turns a running phase timer into an expired one and changes nothing else; MEM's other users store one
byte. Memory is read in its canonical form (log entry 8). -/
def Obligations.TimeAndMemorySteps : Prop :=
  ∀ s : State,
    (nextEvent s = .expire → s.phase = .running → step s = .next { takeEvent s with phase := .expired }) ∧
      (nextEvent s = .expire → s.phase ≠ .running → step s = .next (takeEvent s)) ∧
      (∀ (a : Addr) (v : Byte), nextEvent s = .memWrite a v → memWf s.mem = true →
        ∃ t, step s = .next t ∧ t = { takeEvent s with mem := t.mem } ∧ memRead t.mem a.toNat = v ∧
          ∀ a', a' ≠ a.toNat → memRead t.mem a' = memRead s.mem a')

/-- R47: the reset values. -/
def Obligations.ResetValues : Prop := AtReset State.reset

/-- R350, R351, R352: reset, at any time, puts every piece of the block's state at R47's value. It touches neither system
memory nor the card: no byte is exchanged. The history and the card's coming answers stay (log entry 16). -/
def Obligations.ResetInput : Prop :=
  ∀ s : State, nextEvent s = .reset →
    ∃ t, step s = .next t ∧ AtReset t ∧ t.mem = s.mem ∧ t.params = s.params ∧ t.bus = s.bus ∧ t.card = s.card

/-! ## Initialization -/

/-- R201, R202: Enter drops to low speed and clears the restart count; BusReset deselects, exchanges ten fill bytes and
arms the phase timer. -/
def Obligations.EnterAndBusReset : Prop :=
  ∀ s : State,
    exec .stateIEnter s = .next { s with hs := false, ctx := { s.ctx with retry := 0 }, fsm := 0x11 } ∧
      ∃ (t : State) (answers : List Byte),
        exec .stateIBusReset s = .next t ∧ answers.length = 10 ∧
          t.bus = s.bus ++ answers.map (fun a => ⟨false, s.hs, 0xFF, a⟩) ∧ t.cs = false ∧ t.polls = s.polls ∧
          t = { withBus s t with phase := .running, fsm := 0x12 }

/-- R203, R204: WaitPowerStable waits for the timer; SendReset sends CMD0 until the card answers 0x01, the answer read
before the timer. -/
def Obligations.WaitPowerAndSendReset : Prop :=
  ∀ s : State,
    exec .stateIWaitPower s = .next (if s.phase = .expired then { s with phase := .running, fsm := 0x13 } else s) ∧
      ∃ (s1 : State) (r : Byte), Answers .cmd0 s s1 r ∧
        exec .stateISendReset s =
          .next
            (if r = 0x01 then { s1 with fsm := 0x14 }
             else if s.phase = .expired then protocolErrored s1
             else s1)

/-- R205, R206, R208: CMD8's answer 0x01 takes the v2 branch and any other the legacy branch; SendInterfaceCondition only
clears the echo index; ValidateEcho compares the two trailing bytes. -/
def Obligations.VersionBranch : Prop :=
  ∀ s : State,
    (∃ (s1 : State) (r : Byte), Answers .cmd8 s s1 r ∧
      exec .stateICheckVersion s = .next { s1 with fsm := if r = 0x01 then 0x15 else 0x1B }) ∧
      exec .stateISendIfCond s = .next { s with ctx := { s.ctx with echoIdx := 0 }, fsm := 0x16 } ∧
      exec .stateIValidateEcho s =
        .next
          (if s.ctx.echo[2] = 0x01 ∧ s.ctx.echo[3] = 0xAA then { s with phase := .running, fsm := 0x18 }
           else { s with fsm := 0x1B })

/-- R207: CollectVoltageEcho stores one byte a tick, as received, and goes on after the fourth. -/
def Obligations.EchoBytesAreCollected : Prop :=
  ∀ s : State, s.ctx.echoIdx < 4 →
    ∃ t : State, exec .stateICollectEcho s = .next t ∧
      (∀ j : Fin 4, t.ctx.echo[j] = if j.val = s.ctx.echoIdx.toNat then cardAnswer s else s.ctx.echo[j]) ∧
      t.ctx.echoIdx = s.ctx.echoIdx + 1 ∧ t.fsm = (if s.ctx.echoIdx = 3 then 0x17 else s.fsm) ∧
      t =
        { exchanged 0xFF s with
          ctx := { s.ctx with echo := t.ctx.echo, echoIdx := t.ctx.echoIdx }, fsm := t.fsm }

/-- R210, R211: PollOperatingCondition sends ACMD41 with HCS; ReadOCR sends CMD58 at its first tick and then stores one OCR
byte a tick. -/
def Obligations.OperatingConditionAndOcr : Prop :=
  ∀ s : State,
    (∃ (s1 : State) (r : Byte), Answers .acmd41Hcs s s1 r ∧
      exec .stateIPollOpCond s =
        .next
          (if r = 0x00 then { s1 with ctx := { s1.ctx with ocrIdx := 0 }, fsm := 0x19 }
           else if s.phase = .expired then protocolErrored s1
           else s1)) ∧
      (s.ctx.ocrIdx = 0 →
        ∃ (s1 : State) (r : Byte), Answers .cmd58 s s1 r ∧
          exec .stateIReadOcr s =
            .next
              (if r ≠ 0x00 then protocolErrored s1 else { s1 with ctx := { s1.ctx with ocrIdx := 1 } })) ∧
      (1 ≤ s.ctx.ocrIdx → s.ctx.ocrIdx ≤ 4 →
        ∃ t : State, exec .stateIReadOcr s = .next t ∧
          (∀ j : Fin 4, t.ctx.ocr[j] = if j.val + 1 = s.ctx.ocrIdx.toNat then cardAnswer s else s.ctx.ocr[j]) ∧
          t.ctx.ocrIdx = s.ctx.ocrIdx + 1 ∧ t.fsm = (if s.ctx.ocrIdx = 4 then 0x1A else s.fsm) ∧
          t =
            { exchanged 0xFF s with
              ctx := { s.ctx with ocr := t.ctx.ocr, ocrIdx := t.ctx.ocrIdx }, fsm := t.fsm })

/-- R212, R215: ClassifyCard reads OCR bit 30, the bit of weight 64 in `ocr[0]`; SelectLegacyCommand's probe tells SD1
from MMC. -/
def Obligations.CardClassification : Prop :=
  ∀ s : State,
    exec .stateIClassify s =
        .next
          { s with
            ctx := { s.ctx with pendType := if s.ctx.ocr[0].toNat / 64 % 2 = 1 then 0x0C else 0x04 }, fsm := 0x1F } ∧
      ∃ (s1 : State) (r : Byte), Answers .acmd41 s s1 r ∧
        exec .stateISelectLegacy s =
          .next
            { s1 with
              ctx :=
                { s1.ctx with
                  pendType := if r ≤ 0x01 then 0x02 else 0x01, pollCmd := if r ≤ 0x01 then 0xA9 else 0x01 }
              phase := .running
              fsm := 0x1C }

/-- R216, R217, R218: PollLegacyIdle repeats the selected command; CMD59's answer is ignored; a refused block length is a
protocol error. -/
def Obligations.LegacyBranch : Prop :=
  ∀ s : State,
    (∀ i : Instr, (s.ctx.pollCmd = 0xA9 ∧ i = .acmd41) ∨ (s.ctx.pollCmd = 0x01 ∧ i = .cmd1) →
      ∃ (s1 : State) (r : Byte), Answers i s s1 r ∧
        exec .stateIPollLegacy s =
          .next
            (if r = 0x00 then { s1 with fsm := 0x1D }
             else if s.phase = .expired then protocolErrored s1
             else s1)) ∧
      (∃ s1 : State, exec .cmd59 s = .next s1 ∧ exec .stateIDisableCrc s = .next { s1 with fsm := 0x1E }) ∧
      ∃ (s1 : State) (r : Byte), Answers .cmd16 s s1 r ∧
        exec .stateISetBlklen s = .next (if r ≠ 0x00 then protocolErrored s1 else { s1 with fsm := 0x1F })

/-- R219, R220: a failed CMD9, a wrong token byte, or filler after the timer, gives zero sectors and releases the bus; the
byte is tested before the timer. -/
def Obligations.CsdCommandAndToken : Prop :=
  ∀ s : State,
    (∃ (s1 : State) (r : Byte), Answers .cmd9 s s1 r ∧
      exec .stateIFinCsdCmd s =
        .next
          (if r ≠ 0x00 then
            { released { s1 with ctx := { s1.ctx with sectorCount := 0 } } with fsm := 0x22 }
           else { s1 with phase := .running, fsm := 0x20 })) ∧
      exec .stateIFinCsdToken s =
        .next
          (if cardAnswer s = 0xFE then
            { exchanged 0xFF s with ctx := { s.ctx with csdIdx := 0 }, fsm := 0x21 }
           else if cardAnswer s = 0xFF ∧ s.phase ≠ .expired then exchanged 0xFF s
           else
            { released { exchanged 0xFF s with ctx := { s.ctx with sectorCount := 0 } } with fsm := 0x22 })

/-- R221: the CSD bytes are stored one a tick; after the eighteenth the bus is released and the capacity decoded. -/
def Obligations.CsdBytesAreCollected : Prop :=
  ∀ s : State, s.ctx.csdIdx < 18 →
    ∃ (t : State) (csd : Vector Byte 18), exec .stateIFinCsdData s = .next t ∧
      (∀ j : Fin 18, csd[j] = if j.val = s.ctx.csdIdx.toNat then cardAnswer s else s.ctx.csd[j]) ∧
      (s.ctx.csdIdx ≠ 17 →
        t = { exchanged 0xFF s with ctx := { s.ctx with csd := csd, csdIdx := s.ctx.csdIdx + 1 } }) ∧
      (s.ctx.csdIdx = 17 →
        t =
          { released (exchanged 0xFF s) with
            ctx :=
              { s.ctx with csd := csd, csdIdx := 18, sectorCount := decodeCsd s.params.csdV1Divide csd }
            fsm := 0x22 })

/-- R222, R185: the commit mounts the card with `sector_count - 1` modulo 2^32, clears the counters, raises the speed and
completes with OK. -/
def Obligations.CommitMountsTheCard : Prop :=
  ∀ s : State,
    exec .stateIFinCommit s =
      .next
        (completed 0
          { s with
            dev :=
              { cardType := s.ctx.pendType, mounted := true,
                lastSector := BitVec.ofNat 32 (s.ctx.sectorCount.toNat + (2 ^ 32 - 1)), rdCount := 0, wrCount := 0 }
            hs := true })

/-- R230, R231: a protocol error restarts at BusReset while the budget lasts, and otherwise releases the bus and completes
with NOT_INITIALIZED; restarts do not change the descriptor. -/
def Obligations.ProtocolErrorProcedure : Prop :=
  ∀ s : State, protocolError s = protocolErrored s ∧ (protocolError s).dev = s.dev ∧
    (s.ctx.retry ≤ s.params.initRetries → (protocolError s).ctx.retry ≤ s.params.initRetries)

/-! ## Reading a block -/

/-- R251, R252: R_SEND sends CMD17 with the snapshot's sector unchanged; R_TOKEN waits for the token, the byte tested
before the timer. -/
def Obligations.ReadCommandAndToken : Prop :=
  ∀ s : State,
    (∃ (s1 : State) (r : Byte), Answers (.cmd17 s.ctx.snapSector) s s1 r ∧
      exec .stateRSend s =
        .next (if r ≠ 0x00 then completed 2 (released s1) else { s1 with phase := .running, fsm := 0x31 })) ∧
      exec .stateRToken s =
        .next
          (if cardAnswer s = 0xFE then
            { exchanged 0xFF s with ctx := { s.ctx with idx := 0, crcCalc := 0, crcRecv := 0 }, fsm := 0x32 }
           else if cardAnswer s = 0xFF ∧ s.phase ≠ .expired then exchanged 0xFF s
           else completed 2 (released (exchanged 0xFF s)))

/-- R253, R254: one byte of the read stream. Where its index lies in the window it is stored, and where the launch memory
admits that address the tick completes; data bytes enter the running CRC, bytes 512 and 513 the received one; the 514th
byte completes the read, counts it and reports the CRC. Memory is read in its canonical form (log entry 8). -/
def Obligations.ReadStreamByte : Prop :=
  ∀ s : State, s.ctx.idx < 514 → memWf s.mem = true →
    (InWindow s.ctx s.ctx.idx.toNat → dmaAdmits s (readAddr s.ctx) = true) →
    ∃ (t : State) (crcC crcR : BitVec 16) (m : Memory), exec .stateRData s = .next t ∧
      crcC = (if s.ctx.idx.toNat < 512 then crc16Upd s.ctx.crcCalc (cardAnswer s) else s.ctx.crcCalc) ∧
      crcR.toNat =
        (if s.ctx.idx.toNat < 512 then s.ctx.crcRecv.toNat
         else if s.ctx.idx.toNat = 512 then (cardAnswer s).toNat * 256
         else s.ctx.crcRecv.toNat / 256 * 256 + (cardAnswer s).toNat) ∧
      (InWindow s.ctx s.ctx.idx.toNat →
        memRead m (readAddr s.ctx).toNat = cardAnswer s ∧
          ∀ a, a ≠ (readAddr s.ctx).toNat → memRead m a = memRead s.mem a) ∧
      (¬ InWindow s.ctx s.ctx.idx.toNat → m = s.mem) ∧
      (s.ctx.idx ≠ 513 →
        t =
          { exchanged 0xFF s with
            mem := m, ctx := { s.ctx with idx := s.ctx.idx + 1, crcCalc := crcC, crcRecv := crcR } }) ∧
      (s.ctx.idx = 513 →
        t =
          completed (if s.params.crc16Enforce ∧ crcC ≠ crcR then 2 else 0)
            { released (exchanged 0xFF s) with
              mem := m
              ctx := { s.ctx with idx := 514, crcCalc := crcC, crcRecv := crcR }
              dev := { s.dev with rdCount := s.dev.rdCount + 1 }
              diag := { rdCrcCalc := crcC, rdCrcRecv := crcR, crcMismatch := decide (crcC ≠ crcR) } })

/-- R253, R61: where a byte of the read stream goes: `snap_buf + i - snap_offset` modulo 2^32. -/
def Obligations.ReadAddressFormula : Prop :=
  ∀ c : Context, InWindow c c.idx.toNat →
    (readAddr c).toNat = (c.snapBuf.toNat + (c.idx.toNat - c.snapOffset.toNat)) % 2 ^ 32

/-- R67, R322: a tick whose DMA access goes to an address the launch memory refuses faults, in both FSMs; R_DATA makes
none outside the window and then does not fault. -/
def Obligations.RefusedDmaFaults : Prop :=
  ∀ s : State,
    (exec .stateRData s = .fault (.dmaRefused (readAddr s.ctx)) ↔
      InWindow s.ctx s.ctx.idx.toNat ∧ dmaAdmits s (readAddr s.ctx) = false) ∧
      (exec .stateWData s = .fault (.dmaRefused (writeAddr s.ctx)) ↔ dmaAdmits s (writeAddr s.ctx) = false) ∧
      (nextEvent s = .tick → s.srv = .busy → s.live = .read → s.fsm = 0x32 → InWindow s.ctx s.ctx.idx.toNat →
        dmaAdmits s (readAddr s.ctx) = false → step s = .fault (.dmaRefused (readAddr s.ctx))) ∧
      (nextEvent s = .tick → s.srv = .busy → s.live = .write → s.fsm = 0x42 →
        dmaAdmits s (writeAddr s.ctx) = false → step s = .fault (.dmaRefused (writeAddr s.ctx)))

/-- R253, R254, R255, R256, R258: the whole stream. From the token on, 514 ticks with the card sending a block and a
trailer, the window admitted: the request completes with OK; the window's bytes, and no others, are in the buffer, clipped
at index 514; the read is counted; the CRC is computed, kept and compared. Memory is read in its canonical
form (log entry 8). -/
def Obligations.ReadStreamCopiesTheWindow : Prop :=
  ∀ (s : State) (block : List Byte) (hi lo : Byte) (later : List Byte),
    s.outside = .script [] → s.srv = .busy → s.live = .read → s.fsm = 0x32 → s.ctx.idx = 0 → s.ctx.crcCalc = 0 →
    memWf s.mem = true → s.params.crc16Enforce = false → block.length = 512 →
    s.card = block ++ hi :: lo :: later →
    (∀ k, s.ctx.snapOffset.toNat + k < 514 → k < s.ctx.snapCount.toNat →
      dmaAdmits s (s.ctx.snapBuf + BitVec.ofNat 32 k) = true) →
    ∃ t, Host.Core.run core 514 s = .next t ∧
      (t.srv = .idle ∧ t.record.error = 0 ∧ t.record.kind = 0 ∧ t.record.statusBusy = false ∧ t.cs = false) ∧
      t.dev = { s.dev with rdCount := s.dev.rdCount + 1 } ∧
      t.diag =
        { rdCrcCalc := crc16 block, rdCrcRecv := hi ++ lo, crcMismatch := decide (crc16 block ≠ hi ++ lo) } ∧
      (∀ k, s.ctx.snapOffset.toNat + k < 514 → k < s.ctx.snapCount.toNat →
        some (memRead t.mem (s.ctx.snapBuf + BitVec.ofNat 32 k).toNat) =
          (block ++ [hi, lo])[s.ctx.snapOffset.toNat + k]?) ∧
      ∀ a : Nat,
        (∀ k, s.ctx.snapOffset.toNat + k < 514 → k < s.ctx.snapCount.toNat →
          a ≠ (s.ctx.snapBuf + BitVec.ofNat 32 k).toNat) →
        memRead t.mem a = memRead s.mem a

/-! ## Writing a block -/

/-- R271, R272: W_SEND sends CMD24 with the snapshot's sector unchanged; W_TOKEN sends the write token. -/
def Obligations.WriteCommandAndToken : Prop :=
  ∀ s : State,
    (∃ (s1 : State) (r : Byte), Answers (.cmd24 s.ctx.snapSector) s s1 r ∧
      exec .stateWSend s = .next (if r ≠ 0x00 then completed 2 (released s1) else { s1 with fsm := 0x41 })) ∧
      exec .stateWToken s =
        .next { exchanged s.params.wrToken s with ctx := { s.ctx with idx := 0 }, fsm := 0x42 }

/-- R273: W_DATA sends the buffer byte at `snap_buf + idx` modulo 2^32, one a tick, if the launch memory admits that
address, and faults the tick if it refuses it. -/
def Obligations.WriteDataByte : Prop :=
  ∀ s : State,
    (writeAddr s.ctx).toNat = (s.ctx.snapBuf.toNat + s.ctx.idx.toNat) % 2 ^ 32 ∧
      (dmaAdmits s (writeAddr s.ctx) = true →
        exec .stateWData s =
          .next
            (if s.ctx.idx = 511 then
              { exchanged (memRead s.mem (writeAddr s.ctx).toNat) s with
                ctx := { s.ctx with idx := 0 }, fsm := 0x43 }
             else
              { exchanged (memRead s.mem (writeAddr s.ctx).toNat) s with
                ctx := { s.ctx with idx := s.ctx.idx + 1 } })) ∧
      (dmaAdmits s (writeAddr s.ctx) = false → exec .stateWData s = .fault (.dmaRefused (writeAddr s.ctx)))

/-- R274, R275, R94: two dummy CRC bytes; then one data-response byte, its low five bits 0x05 for acceptance. -/
def Obligations.WriteCrcAndResponse : Prop :=
  ∀ s : State,
    exec .stateWCrc s =
        .next
          { exchanged 0xFF s with
            ctx := { s.ctx with idx := s.ctx.idx + 1 }, fsm := if s.ctx.idx = 1 then 0x44 else s.fsm } ∧
      exec .stateWDresp s =
        .next
          (if (cardAnswer s).toNat % 32 = 5 then { exchanged 0xFF s with phase := .running, fsm := 0x45 }
           else completed 5 (released (exchanged 0xFF s)))

/-- R276, R278: the busy wait ends at a non-zero byte with OK, tested before the timer, or at the timer with BUSY; either
exit releases the bus and counts the write. -/
def Obligations.WriteBusyWait : Prop :=
  ∀ s : State,
    exec .stateWBusy s =
      .next
        (if cardAnswer s ≠ 0x00 then
          completed 0
            { released (exchanged 0xFF s) with dev := { s.dev with wrCount := s.dev.wrCount + 1 } }
         else if s.phase = .expired then
          completed 4
            { released (exchanged 0xFF s) with dev := { s.dev with wrCount := s.dev.wrCount + 1 } }
         else exchanged 0xFF s)

/-- R273, R280, R74: 512 ticks of W_DATA send buffer bytes 0 to 511 in order, as the block's data bytes, and store
nothing. -/
def Obligations.WriteStreamSendsTheBuffer : Prop :=
  ∀ s : State,
    s.outside = .script [] → s.srv = .busy → s.live = .write → s.fsm = 0x42 → s.ctx.idx = 0 →
    (∀ k, k < 512 → dmaAdmits s (s.ctx.snapBuf + BitVec.ofNat 32 k) = true) →
    ∃ (t : State) (answers : List Byte), Host.Core.run core 512 s = .next t ∧ answers.length = 512 ∧
      t.bus =
        s.bus ++
          List.zipWith (fun o a => ⟨s.cs, s.hs, o, a⟩)
            ((List.range 512).map fun k => memRead s.mem (s.ctx.snapBuf + BitVec.ofNat 32 k).toNat) answers ∧
      t.fsm = 0x43 ∧ t.mem = s.mem ∧ t.dev = s.dev ∧ t.record = s.record ∧ t.ctx = s.ctx

/-! ## Whole-machine rules -/

/-- R22: every step keeps the control point's invariants. It follows that no step reaches the sink (R330). -/
def Obligations.StepKeepsTheControlPoint : Prop :=
  ∀ s t : State, ControlInv s → step s = .next t → ControlInv t

/-- Every step keeps memory in its canonical form (the model's form of R61's memory, log entry 8). -/
def Obligations.StepKeepsMemoryCanonical : Prop :=
  ∀ s t : State, memWf s.mem = true → step s = .next t → memWf t.mem = true

/-- R22, R24, R30, R95, R96, R230, R234: every step keeps all the invariants of `Inv`. -/
def Obligations.StepKeepsEveryInvariant : Prop := ∀ s t : State, Inv s → step s = .next t → Inv t

/-- R47: reset meets the invariants. -/
def Obligations.ResetMeetsTheInvariants : Prop := Inv State.reset

/-- R27, R259, R278: who writes the descriptor. Only the commit writes the mount, the type and the bound; only it and the
read stream's end write `rd_count`; only it and the busy wait's end write `wr_count`. -/
def Obligations.DescriptorWriters : Prop :=
  ∀ (i : Instr) (s t : State), exec i s = .next t → i ≠ .stateIFinCommit →
    (t.dev.mounted = s.dev.mounted ∧ t.dev.cardType = s.dev.cardType ∧ t.dev.lastSector = s.dev.lastSector) ∧
      (t.dev.rdCount = s.dev.rdCount ∨
        i = .stateRData ∧ t.srv = .idle ∧ t.dev.rdCount = s.dev.rdCount + 1) ∧
      (t.dev.wrCount = s.dev.wrCount ∨
        i = .stateWBusy ∧ t.srv = .idle ∧ t.dev.wrCount = s.dev.wrCount + 1)

/-- R61, R253, R280: only R_DATA stores to memory; it stores at most one byte, at `readAddr`; every other address reads as
before, and for every other instruction all of memory is as before. -/
def Obligations.OnlyReadDataStores : Prop :=
  ∀ (i : Instr) (s t : State), exec i s = .next t →
    (i ≠ .stateRData → t.mem = s.mem) ∧
      (i = .stateRData → ∀ a : Nat, (InWindow s.ctx s.ctx.idx.toNat → a ≠ (readAddr s.ctx).toNat) →
        memRead t.mem a = memRead s.mem a)

/-- R201, R222, R33: only Enter and the commit change the speed; only R_DATA's end writes the
diagnostic registers. -/
def Obligations.SpeedAndDiagnosticWriters : Prop :=
  ∀ (i : Instr) (s t : State), exec i s = .next t →
    (i ≠ .stateIEnter → i ≠ .stateIFinCommit → t.hs = s.hs) ∧
      (i = .stateIEnter → t.hs = false) ∧ (i = .stateIFinCommit → t.hs = true) ∧
      (t.diag = s.diag ∨ i = .stateRData ∧ t.srv = .idle)

/-- R41, R7: a step only adds to the bus history, and writes no parameter. A host access, an expiry, another user's store
and reset exchange no byte. -/
def Obligations.HistoryGrowsAndParametersStay : Prop :=
  ∀ s t : State, step s = .next t →
    t.params = s.params ∧ (∃ more, t.bus = s.bus ++ more) ∧ (nextEvent s ≠ .tick → t.bus = s.bus)

/-- R31, R294: only the acceptance of a request writes the snapshot. -/
def Obligations.SnapshotIsKept : Prop :=
  ∀ (i : Instr) (s t : State), isMicroStep i → exec i s = .next t →
    t.ctx.snapDev = s.ctx.snapDev ∧ t.ctx.snapBuf = s.ctx.snapBuf ∧ t.ctx.snapSector = s.ctx.snapSector ∧
      t.ctx.snapOffset = s.ctx.snapOffset ∧ t.ctx.snapCount = s.ctx.snapCount
end

