-- ==== Sys2Proof/Laws/State.lean ====
section
/-! SUPPORT. For each update of the state, what every field reads after it. -/

namespace Sys2Proof.Machine

variable (s : State) (b : Bool) (c v : Byte) (k : BitVec 3) (d : Duration) (a : Addr)

@[simp] theorem select_srv : (select s).srv = s.srv := rfl
@[simp] theorem select_live : (select s).live = s.live := rfl
@[simp] theorem select_fsm : (select s).fsm = s.fsm := rfl
@[simp] theorem select_record : (select s).record = s.record := rfl
@[simp] theorem select_dev : (select s).dev = s.dev := rfl
@[simp] theorem select_ctx : (select s).ctx = s.ctx := rfl
@[simp] theorem select_diag : (select s).diag = s.diag := rfl
@[simp] theorem select_cs : (select s).cs = true := rfl
@[simp] theorem select_hs : (select s).hs = s.hs := rfl
@[simp] theorem select_phase : (select s).phase = s.phase := rfl
@[simp] theorem select_mem : (select s).mem = s.mem := rfl
@[simp] theorem select_params : (select s).params = s.params := rfl
@[simp] theorem select_bus : (select s).bus = s.bus := rfl
@[simp] theorem select_card : (select s).card = s.card := rfl
@[simp] theorem select_polls : (select s).polls = s.polls := rfl
@[simp] theorem select_draws : (select s).draws = s.draws := rfl
@[simp] theorem select_outside : (select s).outside = s.outside := rfl
@[simp] theorem select_hostData : (select s).hostData = s.hostData := rfl

@[simp] theorem deselect_srv : (deselect s).srv = s.srv := rfl
@[simp] theorem deselect_live : (deselect s).live = s.live := rfl
@[simp] theorem deselect_fsm : (deselect s).fsm = s.fsm := rfl
@[simp] theorem deselect_record : (deselect s).record = s.record := rfl
@[simp] theorem deselect_dev : (deselect s).dev = s.dev := rfl
@[simp] theorem deselect_ctx : (deselect s).ctx = s.ctx := rfl
@[simp] theorem deselect_diag : (deselect s).diag = s.diag := rfl
@[simp] theorem deselect_cs : (deselect s).cs = false := rfl
@[simp] theorem deselect_hs : (deselect s).hs = s.hs := rfl
@[simp] theorem deselect_phase : (deselect s).phase = s.phase := rfl
@[simp] theorem deselect_mem : (deselect s).mem = s.mem := rfl
@[simp] theorem deselect_params : (deselect s).params = s.params := rfl
@[simp] theorem deselect_bus : (deselect s).bus = s.bus := rfl
@[simp] theorem deselect_card : (deselect s).card = s.card := rfl
@[simp] theorem deselect_polls : (deselect s).polls = s.polls := rfl
@[simp] theorem deselect_draws : (deselect s).draws = s.draws := rfl
@[simp] theorem deselect_outside : (deselect s).outside = s.outside := rfl
@[simp] theorem deselect_hostData : (deselect s).hostData = s.hostData := rfl

@[simp] theorem setHs_srv : (setHs b s).srv = s.srv := rfl
@[simp] theorem setHs_live : (setHs b s).live = s.live := rfl
@[simp] theorem setHs_fsm : (setHs b s).fsm = s.fsm := rfl
@[simp] theorem setHs_record : (setHs b s).record = s.record := rfl
@[simp] theorem setHs_dev : (setHs b s).dev = s.dev := rfl
@[simp] theorem setHs_ctx : (setHs b s).ctx = s.ctx := rfl
@[simp] theorem setHs_diag : (setHs b s).diag = s.diag := rfl
@[simp] theorem setHs_cs : (setHs b s).cs = s.cs := rfl
@[simp] theorem setHs_hs : (setHs b s).hs = b := rfl
@[simp] theorem setHs_phase : (setHs b s).phase = s.phase := rfl
@[simp] theorem setHs_mem : (setHs b s).mem = s.mem := rfl
@[simp] theorem setHs_params : (setHs b s).params = s.params := rfl
@[simp] theorem setHs_bus : (setHs b s).bus = s.bus := rfl
@[simp] theorem setHs_card : (setHs b s).card = s.card := rfl
@[simp] theorem setHs_polls : (setHs b s).polls = s.polls := rfl
@[simp] theorem setHs_draws : (setHs b s).draws = s.draws := rfl
@[simp] theorem setHs_outside : (setHs b s).outside = s.outside := rfl
@[simp] theorem setHs_hostData : (setHs b s).hostData = s.hostData := rfl

@[simp] theorem goto_srv : (goto c s).srv = s.srv := rfl
@[simp] theorem goto_live : (goto c s).live = s.live := rfl
@[simp] theorem goto_fsm : (goto c s).fsm = c := rfl
@[simp] theorem goto_record : (goto c s).record = s.record := rfl
@[simp] theorem goto_dev : (goto c s).dev = s.dev := rfl
@[simp] theorem goto_ctx : (goto c s).ctx = s.ctx := rfl
@[simp] theorem goto_diag : (goto c s).diag = s.diag := rfl
@[simp] theorem goto_cs : (goto c s).cs = s.cs := rfl
@[simp] theorem goto_hs : (goto c s).hs = s.hs := rfl
@[simp] theorem goto_phase : (goto c s).phase = s.phase := rfl
@[simp] theorem goto_mem : (goto c s).mem = s.mem := rfl
@[simp] theorem goto_params : (goto c s).params = s.params := rfl
@[simp] theorem goto_bus : (goto c s).bus = s.bus := rfl
@[simp] theorem goto_card : (goto c s).card = s.card := rfl
@[simp] theorem goto_polls : (goto c s).polls = s.polls := rfl
@[simp] theorem goto_draws : (goto c s).draws = s.draws := rfl
@[simp] theorem goto_outside : (goto c s).outside = s.outside := rfl
@[simp] theorem goto_hostData : (goto c s).hostData = s.hostData := rfl

@[simp] theorem arm_srv : (arm d s).srv = s.srv := rfl
@[simp] theorem arm_live : (arm d s).live = s.live := rfl
@[simp] theorem arm_fsm : (arm d s).fsm = s.fsm := rfl
@[simp] theorem arm_record : (arm d s).record = s.record := rfl
@[simp] theorem arm_dev : (arm d s).dev = s.dev := rfl
@[simp] theorem arm_ctx : (arm d s).ctx = s.ctx := rfl
@[simp] theorem arm_diag : (arm d s).diag = s.diag := rfl
@[simp] theorem arm_cs : (arm d s).cs = s.cs := rfl
@[simp] theorem arm_hs : (arm d s).hs = s.hs := rfl
@[simp] theorem arm_phase : (arm d s).phase = .running := rfl
@[simp] theorem arm_mem : (arm d s).mem = s.mem := rfl
@[simp] theorem arm_params : (arm d s).params = s.params := rfl
@[simp] theorem arm_bus : (arm d s).bus = s.bus := rfl
@[simp] theorem arm_card : (arm d s).card = s.card := rfl
@[simp] theorem arm_polls : (arm d s).polls = s.polls := rfl
@[simp] theorem arm_draws : (arm d s).draws = s.draws := rfl
@[simp] theorem arm_outside : (arm d s).outside = s.outside := rfl
@[simp] theorem arm_hostData : (arm d s).hostData = s.hostData := rfl

@[simp] theorem dmaWrite_srv : (dmaWrite a v s).srv = s.srv := rfl
@[simp] theorem dmaWrite_live : (dmaWrite a v s).live = s.live := rfl
@[simp] theorem dmaWrite_fsm : (dmaWrite a v s).fsm = s.fsm := rfl
@[simp] theorem dmaWrite_record : (dmaWrite a v s).record = s.record := rfl
@[simp] theorem dmaWrite_dev : (dmaWrite a v s).dev = s.dev := rfl
@[simp] theorem dmaWrite_ctx : (dmaWrite a v s).ctx = s.ctx := rfl
@[simp] theorem dmaWrite_diag : (dmaWrite a v s).diag = s.diag := rfl
@[simp] theorem dmaWrite_cs : (dmaWrite a v s).cs = s.cs := rfl
@[simp] theorem dmaWrite_hs : (dmaWrite a v s).hs = s.hs := rfl
@[simp] theorem dmaWrite_phase : (dmaWrite a v s).phase = s.phase := rfl
@[simp] theorem dmaWrite_mem : (dmaWrite a v s).mem = memWrite s.mem a.toNat v := rfl
@[simp] theorem dmaWrite_params : (dmaWrite a v s).params = s.params := rfl
@[simp] theorem dmaWrite_bus : (dmaWrite a v s).bus = s.bus := rfl
@[simp] theorem dmaWrite_card : (dmaWrite a v s).card = s.card := rfl
@[simp] theorem dmaWrite_polls : (dmaWrite a v s).polls = s.polls := rfl
@[simp] theorem dmaWrite_draws : (dmaWrite a v s).draws = s.draws := rfl
@[simp] theorem dmaWrite_outside : (dmaWrite a v s).outside = s.outside := rfl
@[simp] theorem dmaWrite_hostData : (dmaWrite a v s).hostData = s.hostData := rfl

@[simp] theorem xchg_srv : (xchg v s).2.srv = s.srv := rfl
@[simp] theorem xchg_live : (xchg v s).2.live = s.live := rfl
@[simp] theorem xchg_fsm : (xchg v s).2.fsm = s.fsm := rfl
@[simp] theorem xchg_record : (xchg v s).2.record = s.record := rfl
@[simp] theorem xchg_dev : (xchg v s).2.dev = s.dev := rfl
@[simp] theorem xchg_ctx : (xchg v s).2.ctx = s.ctx := rfl
@[simp] theorem xchg_diag : (xchg v s).2.diag = s.diag := rfl
@[simp] theorem xchg_cs : (xchg v s).2.cs = s.cs := rfl
@[simp] theorem xchg_hs : (xchg v s).2.hs = s.hs := rfl
@[simp] theorem xchg_phase : (xchg v s).2.phase = s.phase := rfl
@[simp] theorem xchg_mem : (xchg v s).2.mem = s.mem := rfl
@[simp] theorem xchg_params : (xchg v s).2.params = s.params := rfl
@[simp] theorem xchg_bus : (xchg v s).2.bus = s.bus ++ [⟨s.cs, s.hs, v, cardAnswer s⟩] := rfl
@[simp] theorem xchg_card : (xchg v s).2.card = s.card.tail := rfl
@[simp] theorem xchg_polls : (xchg v s).2.polls = s.polls := rfl
@[simp] theorem xchg_draws : (xchg v s).2.draws = s.draws + 1 := rfl
@[simp] theorem xchg_outside : (xchg v s).2.outside = s.outside := rfl
@[simp] theorem xchg_hostData : (xchg v s).2.hostData = s.hostData := rfl

@[simp] theorem send_srv : (send v s).srv = s.srv := rfl
@[simp] theorem send_live : (send v s).live = s.live := rfl
@[simp] theorem send_fsm : (send v s).fsm = s.fsm := rfl
@[simp] theorem send_record : (send v s).record = s.record := rfl
@[simp] theorem send_dev : (send v s).dev = s.dev := rfl
@[simp] theorem send_ctx : (send v s).ctx = s.ctx := rfl
@[simp] theorem send_diag : (send v s).diag = s.diag := rfl
@[simp] theorem send_cs : (send v s).cs = s.cs := rfl
@[simp] theorem send_hs : (send v s).hs = s.hs := rfl
@[simp] theorem send_phase : (send v s).phase = s.phase := rfl
@[simp] theorem send_mem : (send v s).mem = s.mem := rfl
@[simp] theorem send_params : (send v s).params = s.params := rfl
@[simp] theorem send_bus : (send v s).bus = s.bus ++ [⟨s.cs, s.hs, v, cardAnswer s⟩] := rfl
@[simp] theorem send_card : (send v s).card = s.card.tail := rfl
@[simp] theorem send_polls : (send v s).polls = s.polls := rfl
@[simp] theorem send_draws : (send v s).draws = s.draws + 1 := rfl
@[simp] theorem send_outside : (send v s).outside = s.outside := rfl
@[simp] theorem send_hostData : (send v s).hostData = s.hostData := rfl

@[simp] theorem release_srv : (release s).srv = s.srv := rfl
@[simp] theorem release_live : (release s).live = s.live := rfl
@[simp] theorem release_fsm : (release s).fsm = s.fsm := rfl
@[simp] theorem release_record : (release s).record = s.record := rfl
@[simp] theorem release_dev : (release s).dev = s.dev := rfl
@[simp] theorem release_ctx : (release s).ctx = s.ctx := rfl
@[simp] theorem release_diag : (release s).diag = s.diag := rfl
@[simp] theorem release_cs : (release s).cs = false := rfl
@[simp] theorem release_hs : (release s).hs = s.hs := rfl
@[simp] theorem release_phase : (release s).phase = s.phase := rfl
@[simp] theorem release_mem : (release s).mem = s.mem := rfl
@[simp] theorem release_params : (release s).params = s.params := rfl
@[simp] theorem release_bus : (release s).bus = s.bus ++ [⟨false, s.hs, FILL, cardAnswer s⟩] := rfl
@[simp] theorem release_card : (release s).card = s.card.tail := rfl
@[simp] theorem release_polls : (release s).polls = s.polls := rfl
@[simp] theorem release_draws : (release s).draws = s.draws + 1 := rfl
@[simp] theorem release_outside : (release s).outside = s.outside := rfl
@[simp] theorem release_hostData : (release s).hostData = s.hostData := rfl

@[simp] theorem post_srv : (post k s).srv = s.srv := rfl
@[simp] theorem post_live : (post k s).live = s.live := rfl
@[simp] theorem post_fsm : (post k s).fsm = s.fsm := rfl
@[simp] theorem post_record : (post k s).record = { s.record with error := k, kind := 0 } := rfl
@[simp] theorem post_dev : (post k s).dev = s.dev := rfl
@[simp] theorem post_ctx : (post k s).ctx = s.ctx := rfl
@[simp] theorem post_diag : (post k s).diag = s.diag := rfl
@[simp] theorem post_cs : (post k s).cs = s.cs := rfl
@[simp] theorem post_hs : (post k s).hs = s.hs := rfl
@[simp] theorem post_phase : (post k s).phase = s.phase := rfl
@[simp] theorem post_mem : (post k s).mem = s.mem := rfl
@[simp] theorem post_params : (post k s).params = s.params := rfl
@[simp] theorem post_bus : (post k s).bus = s.bus := rfl
@[simp] theorem post_card : (post k s).card = s.card := rfl
@[simp] theorem post_polls : (post k s).polls = s.polls := rfl
@[simp] theorem post_draws : (post k s).draws = s.draws := rfl
@[simp] theorem post_outside : (post k s).outside = s.outside := rfl
@[simp] theorem post_hostData : (post k s).hostData = s.hostData := rfl

@[simp] theorem complete_srv : (complete k s).srv = .idle := rfl
@[simp] theorem complete_live : (complete k s).live = .none := rfl
@[simp] theorem complete_fsm : (complete k s).fsm = 0x00 := rfl
@[simp] theorem complete_record : (complete k s).record = { s.record with error := k, kind := 0, statusBusy := false } := rfl
@[simp] theorem complete_dev : (complete k s).dev = s.dev := rfl
@[simp] theorem complete_ctx : (complete k s).ctx = s.ctx := rfl
@[simp] theorem complete_diag : (complete k s).diag = s.diag := rfl
@[simp] theorem complete_cs : (complete k s).cs = s.cs := rfl
@[simp] theorem complete_hs : (complete k s).hs = s.hs := rfl
@[simp] theorem complete_phase : (complete k s).phase = s.phase := rfl
@[simp] theorem complete_mem : (complete k s).mem = s.mem := rfl
@[simp] theorem complete_params : (complete k s).params = s.params := rfl
@[simp] theorem complete_bus : (complete k s).bus = s.bus := rfl
@[simp] theorem complete_card : (complete k s).card = s.card := rfl
@[simp] theorem complete_polls : (complete k s).polls = s.polls := rfl
@[simp] theorem complete_draws : (complete k s).draws = s.draws := rfl
@[simp] theorem complete_outside : (complete k s).outside = s.outside := rfl
@[simp] theorem complete_hostData : (complete k s).hostData = s.hostData := rfl

@[simp] theorem raiseFatal_srv : (raiseFatal s).srv = .fatal := rfl
@[simp] theorem raiseFatal_live : (raiseFatal s).live = s.live := rfl
@[simp] theorem raiseFatal_fsm : (raiseFatal s).fsm = s.fsm := rfl
@[simp] theorem raiseFatal_record : (raiseFatal s).record = { s.record with statusFatal := true } := rfl
@[simp] theorem raiseFatal_dev : (raiseFatal s).dev = s.dev := rfl
@[simp] theorem raiseFatal_ctx : (raiseFatal s).ctx = s.ctx := rfl
@[simp] theorem raiseFatal_diag : (raiseFatal s).diag = s.diag := rfl
@[simp] theorem raiseFatal_cs : (raiseFatal s).cs = s.cs := rfl
@[simp] theorem raiseFatal_hs : (raiseFatal s).hs = s.hs := rfl
@[simp] theorem raiseFatal_phase : (raiseFatal s).phase = s.phase := rfl
@[simp] theorem raiseFatal_mem : (raiseFatal s).mem = s.mem := rfl
@[simp] theorem raiseFatal_params : (raiseFatal s).params = s.params := rfl
@[simp] theorem raiseFatal_bus : (raiseFatal s).bus = s.bus := rfl
@[simp] theorem raiseFatal_card : (raiseFatal s).card = s.card := rfl
@[simp] theorem raiseFatal_polls : (raiseFatal s).polls = s.polls := rfl
@[simp] theorem raiseFatal_draws : (raiseFatal s).draws = s.draws := rfl
@[simp] theorem raiseFatal_outside : (raiseFatal s).outside = s.outside := rfl
@[simp] theorem raiseFatal_hostData : (raiseFatal s).hostData = s.hostData := rfl

@[simp] theorem accept_srv : (accept v s).srv = .busy := rfl
@[simp] theorem accept_live : (accept v s).live = entryLive v := rfl
@[simp] theorem accept_fsm : (accept v s).fsm = entryState v := rfl
@[simp] theorem accept_record : (accept v s).record = { s.record with statusBusy := true } := rfl
@[simp] theorem accept_dev : (accept v s).dev = s.dev := rfl
@[simp] theorem accept_ctx : (accept v s).ctx = snapshot s := rfl
@[simp] theorem accept_diag : (accept v s).diag = s.diag := rfl
@[simp] theorem accept_cs : (accept v s).cs = s.cs := rfl
@[simp] theorem accept_hs : (accept v s).hs = s.hs := rfl
@[simp] theorem accept_phase : (accept v s).phase = s.phase := rfl
@[simp] theorem accept_mem : (accept v s).mem = s.mem := rfl
@[simp] theorem accept_params : (accept v s).params = s.params := rfl
@[simp] theorem accept_bus : (accept v s).bus = s.bus := rfl
@[simp] theorem accept_card : (accept v s).card = s.card := rfl
@[simp] theorem accept_polls : (accept v s).polls = s.polls := rfl
@[simp] theorem accept_draws : (accept v s).draws = s.draws := rfl
@[simp] theorem accept_outside : (accept v s).outside = s.outside := rfl
@[simp] theorem accept_hostData : (accept v s).hostData = s.hostData := rfl

@[simp] theorem storeEcho_srv : (storeEcho v s).srv = s.srv := rfl
@[simp] theorem storeEcho_live : (storeEcho v s).live = s.live := rfl
@[simp] theorem storeEcho_fsm : (storeEcho v s).fsm = s.fsm := rfl
@[simp] theorem storeEcho_record : (storeEcho v s).record = s.record := rfl
@[simp] theorem storeEcho_dev : (storeEcho v s).dev = s.dev := rfl
@[simp] theorem storeEcho_diag : (storeEcho v s).diag = s.diag := rfl
@[simp] theorem storeEcho_cs : (storeEcho v s).cs = s.cs := rfl
@[simp] theorem storeEcho_hs : (storeEcho v s).hs = s.hs := rfl
@[simp] theorem storeEcho_phase : (storeEcho v s).phase = s.phase := rfl
@[simp] theorem storeEcho_mem : (storeEcho v s).mem = s.mem := rfl
@[simp] theorem storeEcho_params : (storeEcho v s).params = s.params := rfl
@[simp] theorem storeEcho_bus : (storeEcho v s).bus = s.bus := rfl
@[simp] theorem storeEcho_card : (storeEcho v s).card = s.card := rfl
@[simp] theorem storeEcho_polls : (storeEcho v s).polls = s.polls := rfl
@[simp] theorem storeEcho_draws : (storeEcho v s).draws = s.draws := rfl
@[simp] theorem storeEcho_outside : (storeEcho v s).outside = s.outside := rfl
@[simp] theorem storeEcho_hostData : (storeEcho v s).hostData = s.hostData := rfl

@[simp] theorem storeOcr_srv : (storeOcr v s).srv = s.srv := rfl
@[simp] theorem storeOcr_live : (storeOcr v s).live = s.live := rfl
@[simp] theorem storeOcr_fsm : (storeOcr v s).fsm = s.fsm := rfl
@[simp] theorem storeOcr_record : (storeOcr v s).record = s.record := rfl
@[simp] theorem storeOcr_dev : (storeOcr v s).dev = s.dev := rfl
@[simp] theorem storeOcr_diag : (storeOcr v s).diag = s.diag := rfl
@[simp] theorem storeOcr_cs : (storeOcr v s).cs = s.cs := rfl
@[simp] theorem storeOcr_hs : (storeOcr v s).hs = s.hs := rfl
@[simp] theorem storeOcr_phase : (storeOcr v s).phase = s.phase := rfl
@[simp] theorem storeOcr_mem : (storeOcr v s).mem = s.mem := rfl
@[simp] theorem storeOcr_params : (storeOcr v s).params = s.params := rfl
@[simp] theorem storeOcr_bus : (storeOcr v s).bus = s.bus := rfl
@[simp] theorem storeOcr_card : (storeOcr v s).card = s.card := rfl
@[simp] theorem storeOcr_polls : (storeOcr v s).polls = s.polls := rfl
@[simp] theorem storeOcr_draws : (storeOcr v s).draws = s.draws := rfl
@[simp] theorem storeOcr_outside : (storeOcr v s).outside = s.outside := rfl
@[simp] theorem storeOcr_hostData : (storeOcr v s).hostData = s.hostData := rfl

@[simp] theorem storeCsd_srv : (storeCsd v s).srv = s.srv := rfl
@[simp] theorem storeCsd_live : (storeCsd v s).live = s.live := rfl
@[simp] theorem storeCsd_fsm : (storeCsd v s).fsm = s.fsm := rfl
@[simp] theorem storeCsd_record : (storeCsd v s).record = s.record := rfl
@[simp] theorem storeCsd_dev : (storeCsd v s).dev = s.dev := rfl
@[simp] theorem storeCsd_diag : (storeCsd v s).diag = s.diag := rfl
@[simp] theorem storeCsd_cs : (storeCsd v s).cs = s.cs := rfl
@[simp] theorem storeCsd_hs : (storeCsd v s).hs = s.hs := rfl
@[simp] theorem storeCsd_phase : (storeCsd v s).phase = s.phase := rfl
@[simp] theorem storeCsd_mem : (storeCsd v s).mem = s.mem := rfl
@[simp] theorem storeCsd_params : (storeCsd v s).params = s.params := rfl
@[simp] theorem storeCsd_bus : (storeCsd v s).bus = s.bus := rfl
@[simp] theorem storeCsd_card : (storeCsd v s).card = s.card := rfl
@[simp] theorem storeCsd_polls : (storeCsd v s).polls = s.polls := rfl
@[simp] theorem storeCsd_draws : (storeCsd v s).draws = s.draws := rfl
@[simp] theorem storeCsd_outside : (storeCsd v s).outside = s.outside := rfl
@[simp] theorem storeCsd_hostData : (storeCsd v s).hostData = s.hostData := rfl

@[simp] theorem resetBlock_srv : (resetBlock s).srv = State.reset.srv := rfl
@[simp] theorem resetBlock_live : (resetBlock s).live = State.reset.live := rfl
@[simp] theorem resetBlock_fsm : (resetBlock s).fsm = State.reset.fsm := rfl
@[simp] theorem resetBlock_record : (resetBlock s).record = State.reset.record := rfl
@[simp] theorem resetBlock_dev : (resetBlock s).dev = State.reset.dev := rfl
@[simp] theorem resetBlock_ctx : (resetBlock s).ctx = State.reset.ctx := rfl
@[simp] theorem resetBlock_diag : (resetBlock s).diag = State.reset.diag := rfl
@[simp] theorem resetBlock_cs : (resetBlock s).cs = State.reset.cs := rfl
@[simp] theorem resetBlock_hs : (resetBlock s).hs = State.reset.hs := rfl
@[simp] theorem resetBlock_phase : (resetBlock s).phase = State.reset.phase := rfl
@[simp] theorem resetBlock_mem : (resetBlock s).mem = s.mem := rfl
@[simp] theorem resetBlock_params : (resetBlock s).params = s.params := rfl
@[simp] theorem resetBlock_bus : (resetBlock s).bus = s.bus := rfl
@[simp] theorem resetBlock_card : (resetBlock s).card = s.card := rfl
@[simp] theorem resetBlock_polls : (resetBlock s).polls = s.polls := rfl
@[simp] theorem resetBlock_draws : (resetBlock s).draws = s.draws := rfl
@[simp] theorem resetBlock_outside : (resetBlock s).outside = s.outside := rfl
@[simp] theorem resetBlock_hostData : (resetBlock s).hostData = s.hostData := rfl

@[simp] theorem withBus_srv (t : State) : (withBus s t).srv = s.srv := rfl
@[simp] theorem withBus_live (t : State) : (withBus s t).live = s.live := rfl
@[simp] theorem withBus_fsm (t : State) : (withBus s t).fsm = s.fsm := rfl
@[simp] theorem withBus_record (t : State) : (withBus s t).record = s.record := rfl
@[simp] theorem withBus_dev (t : State) : (withBus s t).dev = s.dev := rfl
@[simp] theorem withBus_ctx (t : State) : (withBus s t).ctx = s.ctx := rfl
@[simp] theorem withBus_diag (t : State) : (withBus s t).diag = s.diag := rfl
@[simp] theorem withBus_cs (t : State) : (withBus s t).cs = t.cs := rfl
@[simp] theorem withBus_hs (t : State) : (withBus s t).hs = s.hs := rfl
@[simp] theorem withBus_phase (t : State) : (withBus s t).phase = s.phase := rfl
@[simp] theorem withBus_mem (t : State) : (withBus s t).mem = s.mem := rfl
@[simp] theorem withBus_params (t : State) : (withBus s t).params = s.params := rfl
@[simp] theorem withBus_bus (t : State) : (withBus s t).bus = t.bus := rfl
@[simp] theorem withBus_card (t : State) : (withBus s t).card = t.card := rfl
@[simp] theorem withBus_polls (t : State) : (withBus s t).polls = t.polls := rfl
@[simp] theorem withBus_draws (t : State) : (withBus s t).draws = t.draws := rfl
@[simp] theorem withBus_outside (t : State) : (withBus s t).outside = s.outside := rfl
@[simp] theorem withBus_hostData (t : State) : (withBus s t).hostData = s.hostData := rfl

@[simp] theorem xchg_answer : (xchg v s).1 = cardAnswer s := rfl

@[simp] theorem expired_iff : (expired s = true) = (s.phase = .expired) := by simp [expired]

end Sys2Proof.Machine
end

