-- ==== Sys2Proof/Laws/Codec.lean ====
section
/-! SUPPORT. What one exchange, several exchanges, a response poll, a frame and a card command can do, each said once. -/

namespace Sys2Proof.Machine

/-- One exchange of the present bus lines. -/
def busEvent (s : State) (out answer : Byte) : BusEvent := ⟨s.cs, s.hs, out, answer⟩

theorem withBus_refl (s : State) : withBus s s = s := rfl

theorem withBus_trans {s t u : State} (h : t = withBus s t) (h' : u = withBus t u) : u = withBus s u := by
  rw [h'] ; rw [h]; rfl

theorem xchg_withBus (out : Byte) (s : State) : (xchg out s).2 = withBus s (xchg out s).2 := rfl

theorem send_withBus (out : Byte) (s : State) : send out s = withBus s (send out s) := rfl

theorem select_withBus (s : State) : select s = withBus s (select s) := rfl

theorem deselect_withBus (s : State) : deselect s = withBus s (deselect s) := rfl

theorem release_withBus (s : State) : release s = withBus s (release s) := rfl

theorem pollBudget_withBus (s : State) : (pollBudget s).2 = withBus s (pollBudget s).2 := by
  unfold pollBudget; split <;> rfl

@[simp] theorem pollBudget_bus (s : State) : (pollBudget s).2.bus = s.bus := by unfold pollBudget; split <;> rfl

@[simp] theorem pollBudget_cs (s : State) : (pollBudget s).2.cs = s.cs := by unfold pollBudget; split <;> rfl

@[simp] theorem pollBudget_hs (s : State) : (pollBudget s).2.hs = s.hs := by unfold pollBudget; split <;> rfl

/-- Sending bytes: one exchange each, the bus lines as they were, nothing but the bus side changed. -/
theorem sendAll_spec (outs : List Byte) (s : State) :
    ∃ answers : List Byte, answers.length = outs.length ∧
      (sendAll outs s).bus = s.bus ++ List.zipWith (busEvent s) outs answers ∧
      (sendAll outs s).cs = s.cs ∧ sendAll outs s = withBus s (sendAll outs s) := by
  induction outs generalizing s with
  | nil => exact ⟨[], rfl, by simp [sendAll], rfl, rfl⟩
  | cons o rest ih =>
    obtain ⟨as, hl, hb, hc, hw⟩ := ih (send o s)
    refine ⟨cardAnswer s :: as, by simp [hl], ?_, hc, ?_⟩
    · change (sendAll rest (send o s)).bus = _
      rw [hb, show busEvent (send o s) = busEvent s from rfl]
      simp [busEvent]
    · exact withBus_trans (send_withBus o s) hw

/-- The response poll (R124): at most `n + 1` exchanges of the fill byte; all but the last answer have bit 7 set; the
last is the result, and if its bit 7 is set the budget is used up. -/
theorem pollResponse_spec (n : Nat) (s : State) :
    ∃ polled : List Byte, polled.length ≤ n ∧ (∀ b ∈ polled, isResponse b = false) ∧
      (pollResponse n s).2.bus =
        s.bus ++ polled.map (busEvent s FILL) ++ [busEvent s FILL (pollResponse n s).1] ∧
      (isResponse (pollResponse n s).1 = false → polled.length = n) ∧
      (pollResponse n s).2.cs = s.cs ∧ (pollResponse n s).2 = withBus s (pollResponse n s).2 := by
  induction n generalizing s with
  | zero => exact ⟨[], by simp, by simp, by simp [pollResponse, busEvent], by simp, rfl, rfl⟩
  | succ n ih =>
    by_cases hr : isResponse (cardAnswer s) = true
    · refine ⟨[], by simp, by simp, ?_, ?_, ?_, ?_⟩ <;> simp [pollResponse, hr, busEvent, withBus]
      rfl
    · obtain ⟨ps, hl, hp, hb, he, hc, hw⟩ := ih (xchg FILL s).2
      have hr' : isResponse (cardAnswer s) = false := by simpa using hr
      have e : pollResponse (n + 1) s = pollResponse n (xchg FILL s).2 := by simp [pollResponse, hr']
      rw [e]
      refine ⟨cardAnswer s :: ps, by simpa using hl, ?_, ?_, ?_, hc, withBus_trans (xchg_withBus FILL s) hw⟩
      · intro b hb'
        rcases List.mem_cons.mp hb' with rfl | hb'
        · exact hr'
        · exact hp b hb'
      · rw [hb]; simp [busEvent]
      · intro h; simpa using he h

theorem selectCard_withBus (s : State) : selectCard s = withBus s (selectCard s) := rfl

/-- The select sequence and the frame (R123, R124): the idle pulse, then the six frame bytes. -/
theorem putFrame_spec (n : BitVec 6) (arg : BitVec 32) (s : State) :
    ∃ (a0 a1 : Byte) (answers : List Byte), answers.length = 6 ∧
      (putFrame n arg s).bus =
        s.bus ++ [⟨false, s.hs, FILL, a0⟩, ⟨true, s.hs, FILL, a1⟩] ++
          List.zipWith (fun o a => ⟨true, s.hs, o, a⟩) (frame n arg) answers ∧
      (putFrame n arg s).cs = true ∧ putFrame n arg s = withBus s (putFrame n arg s) := by
  obtain ⟨as, hl, hb, hc, hw⟩ := sendAll_spec (frame n arg) (selectCard s)
  refine ⟨cardAnswer (deselect s), cardAnswer (select (send FILL (deselect s))), as, hl, ?_, hc,
    withBus_trans (selectCard_withBus s) hw⟩
  unfold putFrame
  rw [hb, show busEvent (selectCard s) = fun o a => ⟨true, s.hs, o, a⟩ from rfl]
  simp [selectCard]

/-- One command's frame and poll (R121, R123, R124): the idle pulse, the six frame bytes, the polls, and the result as
the last exchange; the card stays selected and nothing but the bus side changes. -/
theorem sendFrame_spec (n : BitVec 6) (arg : BitVec 32) (s : State) :
    ∃ (a0 a1 : Byte) (answers polled : List Byte), answers.length = 6 ∧ (∀ b ∈ polled, isResponse b = false) ∧
      (sendFrame n arg s).2.bus =
        s.bus ++ [⟨false, s.hs, FILL, a0⟩, ⟨true, s.hs, FILL, a1⟩] ++
          List.zipWith (fun o a => ⟨true, s.hs, o, a⟩) (frame n arg) answers ++
          polled.map (fun a => ⟨true, s.hs, FILL, a⟩) ++ [⟨true, s.hs, FILL, (sendFrame n arg s).1⟩] ∧
      (sendFrame n arg s).2.cs = true ∧ (sendFrame n arg s).2 = withBus s (sendFrame n arg s).2 := by
  obtain ⟨a0, a1, as, hl, hb, hc, hw⟩ := putFrame_spec n arg s
  have key := pollResponse_spec (pollBudget (putFrame n arg s)).1 (pollBudget (putFrame n arg s)).2
  rw [show pollResponse (pollBudget (putFrame n arg s)).1 (pollBudget (putFrame n arg s)).2 = sendFrame n arg s
    from rfl] at key
  generalize sendFrame n arg s = x at key ⊢
  obtain ⟨ps, -, hp, hb', -, hc', hw'⟩ := key
  have hhs : (putFrame n arg s).hs = s.hs := by rw [hw, withBus_hs]
  have ev : busEvent (pollBudget (putFrame n arg s)).2 = fun o a => ⟨true, s.hs, o, a⟩ := by
    funext o a; simp only [busEvent, pollBudget_cs, pollBudget_hs, hc, hhs]
  rw [ev, pollBudget_bus, hb] at hb'
  have hw2 := withBus_trans (withBus_trans hw (pollBudget_withBus (putFrame n arg s))) hw'
  exact ⟨a0, a1, as, ps, hl, hp, hb', hc'.trans ((pollBudget_cs _).trans hc), hw2⟩

/-- A card command (R120): the card stays selected, nothing but the bus side changes, the bus history grows, and the
result is the last answer in it. -/
theorem sendCommand_spec (code : Byte) (arg : BitVec 32) (s : State) :
    (sendCommand code arg s).2 = withBus s (sendCommand code arg s).2 ∧ (sendCommand code arg s).2.cs = true ∧
      lastAnswer (sendCommand code arg s).2 = some (sendCommand code arg s).1 ∧
      ∃ more, (sendCommand code arg s).2.bus = s.bus ++ more := by
  have one : ∀ (n : BitVec 6) (arg : BitVec 32) (s : State),
      (sendFrame n arg s).2 = withBus s (sendFrame n arg s).2 ∧ (sendFrame n arg s).2.cs = true ∧
        lastAnswer (sendFrame n arg s).2 = some (sendFrame n arg s).1 ∧
        ∃ more, (sendFrame n arg s).2.bus = s.bus ++ more := by
    intro n arg s
    obtain ⟨a0, a1, as, ps, -, -, hb, hc, hw⟩ := sendFrame_spec n arg s
    refine ⟨hw, hc, ?_, ?_⟩
    · rw [lastAnswer, hb, List.getLast?_append]; rfl
    · rw [hb]; exact ⟨_, by simp only [List.append_assoc]; rfl⟩
  unfold sendCommand
  split
  · dsimp only
    split
    · exact one _ _ _
    · obtain ⟨hw, -, -, m1, hb⟩ := one 55 0 s
      obtain ⟨hw', hc', hl', m2, hb'⟩ := one (code.extractLsb' 0 6) arg (sendFrame 55 0 s).2
      exact ⟨withBus_trans hw hw', hc', hl', m1 ++ m2, by rw [hb', hb, List.append_assoc]⟩
  · exact one _ _ _

/-- A command whose code has bit 7 clear is one frame. -/
theorem sendCommand_plain {code : Byte} (h : code.getLsbD 7 = false) (arg : BitVec 32) (s : State) :
    sendCommand code arg s = sendFrame (code.extractLsb' 0 6) arg s := by
  unfold sendCommand; rw [if_neg (by rw [h]; decide)]

/-- A command whose code has bit 7 set sends CMD55 first and short-circuits on a result greater than 1 (R122). -/
theorem sendCommand_prefixed {code : Byte} (h : code.getLsbD 7 = true) (arg : BitVec 32) (s : State) :
    sendCommand code arg s =
      if (callCmd55 s).1 > 1 then callCmd55 s else sendFrame (code.extractLsb' 0 6) arg (callCmd55 s).2 := by
  have e : callCmd55 s = sendFrame 55 0 s := sendCommand_plain (by decide) 0 s
  rw [e]; unfold sendCommand; rw [if_pos h]

end Sys2Proof.Machine
end

