-- ==== Sys2Proof/Laws/Memory.lean ====
section
/-! SUPPORT. System memory: what a store does, the canonical form, and that every memory operation keeps it. -/

namespace Sys2Proof.Machine

theorem memRead_memWrite_same (m : Memory) (a : Nat) (v : Byte) : memRead (memWrite m a v) a = v ∨
    ¬ memWf m = true := by
  suffices h : ∀ lo, memWfFrom lo m = true → memRead (memWrite m a v) a = v by
    by_cases hw : memWf m = true
    · exact Or.inl (h 0 hw)
    · exact Or.inr hw
  have absent : ∀ (m : Memory) (lo : Nat), memWfFrom lo m = true → a < lo → memRead m a = unlistedByte := by
    intro m
    induction m with
    | nil => intros; rfl
    | cons e rest ih =>
      intro lo h hlt
      simp only [memWfFrom, Bool.and_eq_true, decide_eq_true_eq] at h
      simp only [memRead]
      rw [if_neg (by omega)]
      exact ih _ h.2 (by omega)
  induction m with
  | nil => intro lo _; by_cases hv : v = unlistedByte <;> simp [memWrite, memRead, hv]
  | cons e rest ih =>
    intro lo h
    have h' := h
    simp only [memWfFrom, Bool.and_eq_true, decide_eq_true_eq] at h
    simp only [memWrite]
    split
    · split
      · rename_i hv; rw [hv]; simp only [memRead]; rw [if_neg (by omega)]
        exact absent rest _ h.2 (by omega)
      · simp [memRead]
    · split
      · split
        · rename_i heq hv; rw [hv]; exact absent rest _ h.2 (by omega)
        · simp [memRead]
      · simp only [memRead]; rw [if_neg (by omega)]; exact ih _ h.2

/-- A read after a write to the same place gives the value written. -/
theorem memRead_write_self {m : Memory} (h : memWf m = true) (a : Nat) (v : Byte) :
    memRead (memWrite m a v) a = v :=
  (memRead_memWrite_same m a v).resolve_right (not_not_intro h)

/-- A write leaves every other place alone. -/
theorem memRead_write_other (m : Memory) {a a' : Nat} (v : Byte) (h : a' ≠ a) :
    memRead (memWrite m a v) a' = memRead m a' := by
  induction m with
  | nil => by_cases hv : v = unlistedByte <;> simp [memWrite, memRead, hv, Ne.symm h]
  | cons e rest ih =>
    simp only [memWrite]
    split
    · split
      · rfl
      · simp only [memRead]; rw [if_neg (Ne.symm h)]
    · split
      · rename_i heq; split
        · simp only [memRead]; rw [if_neg (by omega)]
        · simp only [memRead]; rw [if_neg (Ne.symm h), if_neg (by omega)]
      · simp only [memRead, ih]

theorem memWrite_wfFrom (m : Memory) (a : Nat) (v : Byte) (ha : a < 2 ^ 32) :
    ∀ lo, lo ≤ a → memWfFrom lo m = true → memWfFrom lo (memWrite m a v) = true := by
  induction m with
  | nil => intro lo hlo _; by_cases hv : v = unlistedByte <;> simp_all [memWrite, memWfFrom]
  | cons e rest ih =>
    intro lo hlo h
    have h' := h
    simp only [memWfFrom, Bool.and_eq_true, decide_eq_true_eq] at h
    obtain ⟨⟨⟨h1, h2⟩, h3⟩, h4⟩ := h
    have weaken : ∀ (m : Memory) (lo lo' : Nat), lo' ≤ lo → memWfFrom lo m = true → memWfFrom lo' m = true := by
      intro m lo lo' hle hm
      cases m with
      | nil => rfl
      | cons e rest =>
        simp only [memWfFrom, Bool.and_eq_true, decide_eq_true_eq] at hm ⊢
        exact ⟨⟨⟨by omega, hm.1.1.2⟩, hm.1.2⟩, hm.2⟩
    simp only [memWrite]
    split
    · split
      · exact h'
      · simp only [memWfFrom, Bool.and_eq_true, decide_eq_true_eq]
        exact ⟨⟨⟨hlo, ha⟩, ‹_›⟩, ⟨⟨by omega, h2⟩, h3⟩, h4⟩
    · split
      · rename_i heq
        split
        · exact weaken rest _ _ (by omega) h4
        · simp only [memWfFrom, Bool.and_eq_true, decide_eq_true_eq]
          exact ⟨⟨⟨hlo, ha⟩, ‹_›⟩, by rw [heq]; exact h4⟩
      · simp only [memWfFrom, Bool.and_eq_true, decide_eq_true_eq]
        exact ⟨⟨⟨h1, h2⟩, h3⟩, ih _ (by omega) h4⟩

/-- A store at a 32-bit address keeps the canonical form. -/
theorem memWrite_wf (m : Memory) (a : Addr) (v : Byte) (h : memWf m = true) :
    memWf (memWrite m a.toNat v) = true :=
  memWrite_wfFrom m a.toNat v a.isLt 0 (Nat.zero_le _) h

/-- Reset's memory is in canonical form. -/
theorem reset_memWf : memWf State.reset.mem = true := rfl

end Sys2Proof.Machine
end

