-- ==== Sys2Proof/Laws/PerInstr.lean ====
section
/-! SUPPORT. One lemma per instruction about its encoding: the bytes of its row have the format's length, and a frame has
its start and transmission bits 0b01 and its end bit 1 (spec/30_encoding.md R83, R84, R101). -/

namespace Sys2Proof.Laws.FrameShape

/-- The encoding of `i` has its format's length, and a frame the fixed bits of R83. -/
def Statement (i : Instr) : Prop :=
  (encode i).length = formatBytes (formatOf i) ∧
    (formatOf i = .frame48 →
      ((encode i).head?.map fun b => b.extractLsb' 6 2) = some 0b01#2 ∧
        ((encode i).getLast?.map fun b => b.getLsbD 0) = some true)

theorem reqNone : Statement .reqNone := by unfold Statement; decide
theorem reqInit : Statement .reqInit := by unfold Statement; decide
theorem reqRead : Statement .reqRead := by unfold Statement; decide
theorem reqWrite : Statement .reqWrite := by unfold Statement; decide
theorem invalidKind04 (k : Byte) : Statement (.invalidKind04 k) := by simp [Statement, encode, formatOf, formatBytes]
theorem invalidKind08 (k : Byte) : Statement (.invalidKind08 k) := by simp [Statement, encode, formatOf, formatBytes]
theorem invalidKind10 (k : Byte) : Statement (.invalidKind10 k) := by simp [Statement, encode, formatOf, formatBytes]
theorem invalidKind20 (k : Byte) : Statement (.invalidKind20 k) := by simp [Statement, encode, formatOf, formatBytes]
theorem invalidKind40 (k : Byte) : Statement (.invalidKind40 k) := by simp [Statement, encode, formatOf, formatBytes]
theorem invalidKind80 (k : Byte) : Statement (.invalidKind80 k) := by simp [Statement, encode, formatOf, formatBytes]
theorem cmd0 : Statement .cmd0 := by unfold Statement; decide
theorem cmd1 : Statement .cmd1 := by unfold Statement; decide
theorem cmd8 : Statement .cmd8 := by unfold Statement; decide
theorem cmd9 : Statement .cmd9 := by unfold Statement; decide
theorem cmd16 : Statement .cmd16 := by unfold Statement; decide
theorem cmd17 (sector : BitVec 32) : Statement (.cmd17 sector) := by simp [Statement, encode, formatOf, formatBytes, bytesBe32]
theorem cmd24 (sector : BitVec 32) : Statement (.cmd24 sector) := by simp [Statement, encode, formatOf, formatBytes, bytesBe32]
theorem cmd55 : Statement .cmd55 := by unfold Statement; decide
theorem cmd58 : Statement .cmd58 := by unfold Statement; decide
theorem cmd59 : Statement .cmd59 := by unfold Statement; decide
theorem acmd41Hcs : Statement .acmd41Hcs := by unfold Statement; decide
theorem acmd41 : Statement .acmd41 := by unfold Statement; decide
theorem stateNone : Statement .stateNone := by unfold Statement; decide
theorem stateIEnter : Statement .stateIEnter := by unfold Statement; decide
theorem stateIBusReset : Statement .stateIBusReset := by unfold Statement; decide
theorem stateIWaitPower : Statement .stateIWaitPower := by unfold Statement; decide
theorem stateISendReset : Statement .stateISendReset := by unfold Statement; decide
theorem stateICheckVersion : Statement .stateICheckVersion := by unfold Statement; decide
theorem stateISendIfCond : Statement .stateISendIfCond := by unfold Statement; decide
theorem stateICollectEcho : Statement .stateICollectEcho := by unfold Statement; decide
theorem stateIValidateEcho : Statement .stateIValidateEcho := by unfold Statement; decide
theorem stateIPollOpCond : Statement .stateIPollOpCond := by unfold Statement; decide
theorem stateIReadOcr : Statement .stateIReadOcr := by unfold Statement; decide
theorem stateIClassify : Statement .stateIClassify := by unfold Statement; decide
theorem stateISelectLegacy : Statement .stateISelectLegacy := by unfold Statement; decide
theorem stateIPollLegacy : Statement .stateIPollLegacy := by unfold Statement; decide
theorem stateIDisableCrc : Statement .stateIDisableCrc := by unfold Statement; decide
theorem stateISetBlklen : Statement .stateISetBlklen := by unfold Statement; decide
theorem stateIFinCsdCmd : Statement .stateIFinCsdCmd := by unfold Statement; decide
theorem stateIFinCsdToken : Statement .stateIFinCsdToken := by unfold Statement; decide
theorem stateIFinCsdData : Statement .stateIFinCsdData := by unfold Statement; decide
theorem stateIFinCommit : Statement .stateIFinCommit := by unfold Statement; decide
theorem stateRSend : Statement .stateRSend := by unfold Statement; decide
theorem stateRToken : Statement .stateRToken := by unfold Statement; decide
theorem stateRData : Statement .stateRData := by unfold Statement; decide
theorem stateWSend : Statement .stateWSend := by unfold Statement; decide
theorem stateWToken : Statement .stateWToken := by unfold Statement; decide
theorem stateWData : Statement .stateWData := by unfold Statement; decide
theorem stateWCrc : Statement .stateWCrc := by unfold Statement; decide
theorem stateWDresp : Statement .stateWDresp := by unfold Statement; decide
theorem stateWBusy : Statement .stateWBusy := by unfold Statement; decide

end Sys2Proof.Laws.FrameShape
end

