-- ==== Sys2Proof/Machine/Program.lean ====
section
/-! DEFINITION. Host programs (spec/30_encoding.md R103, R104): what the host's statements do, as steps of the agents. No
step of the machine runs one; the host is outside it (log entry 24). -/

namespace Sys2Proof.Machine

/-- A statement of R103. -/
inductive HostStmt where
  /-- `WR <reg>, <value>`: one aligned 32-bit host write -/
  | wr (r : HostReg) (w : Word)
  /-- `RD <reg>`: one host read -/
  | rd (r : HostReg)
  /-- `TICK <n>`: n pulses of `tick` -/
  | ticks (n : Nat)
  /-- `WAIT`: pulse `tick` until `STATUS.PENDING = 0` -/
  | wait
  deriving DecidableEq, Repr

/-- The offset of a register from `REG_BASE` (R35). -/
def regOffset (r : HostReg) : Addr :=
  match r with
  | .kind => 0x00
  | .device => 0x04
  | .buffer => 0x08
  | .sector => 0x0C
  | .offset => 0x10
  | .count => 0x14
  | .status => 0x18
  | .error => 0x1C
  | .devstat => 0x20
  | .lastSector => 0x24
  | .readCount => 0x28
  | .writeCount => 0x2C
  | .rdCrc => 0x30
  | .diag => 0x34
  | .reserved38 => 0x38
  | .reserved3C => 0x3C

/-- Whose step comes next while a host program runs: the agents interleave (R16). -/
inductive Turn where
  /-- The program's own next agent step: a host access or a pulse of `tick`. -/
  | program
  /-- A step of any other agent, such as TIME's expiry or another user's store. -/
  | other (e : Event)
  deriving DecidableEq, Repr

/-- How far a host program has come. -/
inductive HostRun where
  /-- Every statement has ended. -/
  | finished (s : State)
  /-- The turns are used up; these statements have not ended. -/
  | running (rest : List HostStmt) (s : State)
  | fault (r : Fault)
  | refused (r : Refusal)
  deriving DecidableEq, Repr

/-- Go on from a next state; a fault or a refusal ends the run. -/
def thenRun (o : Result) (f : State → HostRun) : HostRun :=
  match o with
  | .next s => f s
  | .fault r => .fault r
  | .refused r => .refused r

/-- The statements that have not ended: `TICK 0` has, and a `WAIT` has exactly where `STATUS.PENDING = 0` (R103). -/
def remaining (ps : List HostStmt) (s : State) : List HostStmt :=
  match ps with
  | .ticks 0 :: rest => remaining rest s
  | .wait :: rest => if pending s then .wait :: rest else remaining rest s
  | .wr r w :: rest => .wr r w :: rest
  | .rd r :: rest => .rd r :: rest
  | .ticks (n + 1) :: rest => .ticks (n + 1) :: rest
  | [] => []

/-- The agent step a statement that has not ended takes next (R103). -/
def stmtEvent (p : HostStmt) (s : State) : Event :=
  match p with
  | .wr r w => .hostWrite (s.params.regBase + regOffset r) 4 w
  | .rd r => .hostRead (s.params.regBase + regOffset r) 4
  | .ticks _ => .tick
  | .wait => .tick

/-- What is left of a statement after that step. -/
def stmtAfter (p : HostStmt) : List HostStmt :=
  match p with
  | .wr _ _ => []
  | .rd _ => []
  | .ticks n => [.ticks (n - 1)]
  | .wait => [.wait]

/-- A host program (R103) run among the other agents' steps, as the turns order them. A `WAIT` goes on pulsing `tick` while
a request is pending, however many turns that takes; where the turns end first, the program is still running. -/
def runHost (turns : List Turn) (ps : List HostStmt) (s : State) : HostRun :=
  match turns with
  | [] =>
    match remaining ps s with
    | [] => .finished s
    | p :: rest => .running (p :: rest) s
  | .other e :: turns => thenRun (perform e s) (runHost turns ps)
  | .program :: turns =>
    match remaining ps s with
    | [] => runHost turns [] s
    | p :: rest => thenRun (perform (stmtEvent p s) s) (runHost turns (stmtAfter p ++ rest))

/-- The pseudo-instruction `INIT` (R104). -/
def hostInit : List HostStmt := [.wr .device 0, .wr .kind 1, .wait, .rd .error]

/-- The pseudo-instruction `READ buf, sec, off, cnt` (R104). -/
def hostRead (buf sec : Word) (off cnt : BitVec 16) : List HostStmt :=
  [.wr .device 0, .wr .buffer buf, .wr .sector sec, .wr .offset (off.zeroExtend 32), .wr .count (cnt.zeroExtend 32),
   .wr .kind 2, .wait, .rd .error]

/-- The pseudo-instruction `WRITE buf, sec` (R104). -/
def hostWrite (buf sec : Word) : List HostStmt :=
  [.wr .device 0, .wr .buffer buf, .wr .sector sec, .wr .kind 3, .wait, .rd .error]

end Sys2Proof.Machine
end

