-- ==== Sys2Proof/Laws/Program.lean ====
section
/-! SUPPORT. What a host program's `WAIT` does (spec/30_encoding.md R103). -/

namespace Sys2Proof.Machine

variable {turns : List Turn} {rest : List HostStmt} {s t : State}

/-- A `WAIT` has not ended while a request is pending. -/
theorem remaining_wait_pending (h : pending s = true) : remaining (.wait :: rest) s = .wait :: rest := if_pos h

/-- A `WAIT` has ended where none is. -/
theorem remaining_wait_done (h : pending s = false) : remaining (.wait :: rest) s = remaining rest s :=
  if_neg (by rw [h]; decide)

/-- The program's turn in a `WAIT` with a request pending: one pulse of `tick`, and the `WAIT` still to come. -/
theorem runHost_wait_pending (h : pending s = true) :
    runHost (.program :: turns) (.wait :: rest) s = thenRun (tick s) (runHost turns (.wait :: rest)) := by
  simp only [runHost, remaining_wait_pending h]; rfl

/-- With no request pending a `WAIT` is over: the program goes on with the statements after it. -/
theorem runHost_program_wait_done (h : pending s = false) :
    runHost (.program :: turns) (.wait :: rest) s = runHost (.program :: turns) rest s := by
  simp only [runHost, remaining_wait_done h]

/-- The same where no turn is left. -/
theorem runHost_nil_wait_done (h : pending s = false) : runHost [] (.wait :: rest) s = runHost [] rest s := by
  simp only [runHost, remaining_wait_done h]

/-- A run that went on had a next state to go on from. -/
theorem thenRun_finished {o : Result} {f : State → HostRun} (h : thenRun o f = .finished t) :
    ∃ u, o = .next u ∧ f u = .finished t := by
  cases o with
  | next u => exact ⟨u, rfl, h⟩
  | fault r => cases h
  | refused r => cases h

/-- No statement after a `WAIT` runs before `STATUS.PENDING = 0`: a finished run splits at a state with no request pending,
where the `WAIT` was over and the rest of the program began. -/
theorem runHost_wait_finished (h : runHost turns (.wait :: rest) s = .finished t) :
    ∃ before later u, turns = before ++ later ∧ runHost before [.wait] s = .finished u ∧ pending u = false ∧
      runHost later rest u = .finished t := by
  induction turns generalizing s with
  | nil =>
    cases hp : pending s with
    | false =>
      exact ⟨[], [], s, rfl, by rw [runHost_nil_wait_done hp]; rfl, hp, by rw [← runHost_nil_wait_done hp]; exact h⟩
    | true => simp only [runHost, remaining_wait_pending hp] at h; cases h
  | cons turn turns ih =>
    cases turn with
    | other e =>
      obtain ⟨s1, h1, h2⟩ := thenRun_finished h
      obtain ⟨before, later, u, rfl, hb, hu, hl⟩ := ih h2
      exact ⟨.other e :: before, later, u, rfl, by simp only [runHost, h1]; exact hb, hu, hl⟩
    | program =>
      cases hp : pending s with
      | false =>
        exact ⟨[], .program :: turns, s, rfl, by rw [runHost_nil_wait_done hp]; rfl, hp,
          by rw [← runHost_program_wait_done hp]; exact h⟩
      | true =>
        rw [runHost_wait_pending hp] at h
        obtain ⟨s1, h1, h2⟩ := thenRun_finished h
        obtain ⟨before, later, u, rfl, hb, hu, hl⟩ := ih h2
        exact ⟨.program :: before, later, u, rfl, by rw [runHost_wait_pending hp, h1]; exact hb, hu, hl⟩

end Sys2Proof.Machine
end

