-- ==== Sys2Proof/Laws/Server.lean ====
section
/-! SUPPORT. The server and the control point: taking an agent step off the schedule, what a tick fetches, what the
take-up of a request can do. -/

namespace Sys2Proof.Machine

/-! ## The schedule -/

/-- Taking the next agent step off the schedule changes the schedule only. -/
theorem takeEvent_eq (s : State) : takeEvent s = { s with outside := (takeEvent s).outside } := by
  unfold takeEvent; split <;> rfl

variable (s : State)

@[simp] theorem takeEvent_srv : (takeEvent s).srv = s.srv := by rw [takeEvent_eq]
@[simp] theorem takeEvent_live : (takeEvent s).live = s.live := by rw [takeEvent_eq]
@[simp] theorem takeEvent_fsm : (takeEvent s).fsm = s.fsm := by rw [takeEvent_eq]
@[simp] theorem takeEvent_record : (takeEvent s).record = s.record := by rw [takeEvent_eq]
@[simp] theorem takeEvent_dev : (takeEvent s).dev = s.dev := by rw [takeEvent_eq]
@[simp] theorem takeEvent_ctx : (takeEvent s).ctx = s.ctx := by rw [takeEvent_eq]
@[simp] theorem takeEvent_diag : (takeEvent s).diag = s.diag := by rw [takeEvent_eq]
@[simp] theorem takeEvent_cs : (takeEvent s).cs = s.cs := by rw [takeEvent_eq]
@[simp] theorem takeEvent_hs : (takeEvent s).hs = s.hs := by rw [takeEvent_eq]
@[simp] theorem takeEvent_phase : (takeEvent s).phase = s.phase := by rw [takeEvent_eq]
@[simp] theorem takeEvent_mem : (takeEvent s).mem = s.mem := by rw [takeEvent_eq]
@[simp] theorem takeEvent_params : (takeEvent s).params = s.params := by rw [takeEvent_eq]
@[simp] theorem takeEvent_bus : (takeEvent s).bus = s.bus := by rw [takeEvent_eq]
@[simp] theorem takeEvent_card : (takeEvent s).card = s.card := by rw [takeEvent_eq]
@[simp] theorem takeEvent_polls : (takeEvent s).polls = s.polls := by rw [takeEvent_eq]
@[simp] theorem takeEvent_draws : (takeEvent s).draws = s.draws := by rw [takeEvent_eq]
@[simp] theorem takeEvent_hostData : (takeEvent s).hostData = s.hostData := by rw [takeEvent_eq]

/-- A step whose agent is SCHED is a tick of the state with that pulse taken off the schedule (R290). -/
theorem step_tick (h : nextEvent s = .tick) : step s = tick (takeEvent s) := by unfold step; rw [h]; rfl

/-- Any other step: what the agent does. -/
theorem step_event {e : Event} (h : nextEvent s = e) : step s = perform e (takeEvent s) := by unfold step; rw [h]

/-- With nothing scripted, every step is a tick and the schedule stays as it is. -/
theorem nextEvent_empty (h : s.outside = .script []) : nextEvent s = .tick ∧ takeEvent s = s := by
  unfold nextEvent takeEvent; rw [h]; exact ⟨rfl, rfl⟩

/-! ## The control point -/

/-- What holds of every row holds of every row found. -/
theorem lookupState_forall {rows : List (Byte × Instr)} {P : Byte → Instr → Prop} (hp : ∀ p ∈ rows, P p.1 p.2)
    {c : Byte} {i : Instr} (h : lookupState rows c = some i) : P c i := by
  induction rows with
  | nil => simp [lookupState] at h
  | cons p rows ih =>
    obtain ⟨k, j⟩ := p
    simp only [lookupState] at h
    split at h
    · rename_i e; injection h with h; subst h e; exact hp _ List.mem_cons_self
    · exact ih (fun q hq => hp q (by simp [hq])) h

/-- A state of a live FSM (R97): its row is a state8 row other than STATE_NONE, spelled by its code, of that FSM. -/
theorem liveRows_spec (l : Live) {c : Byte} {i : Instr} (h : lookupState (liveRows l) c = some i) :
    formatOf i = .state8 ∧ i ≠ .stateNone ∧ encode i = [c] ∧ liveOf c = l := by
  refine lookupState_forall (P := fun c i => formatOf i = .state8 ∧ i ≠ .stateNone ∧ encode i = [c] ∧ liveOf c = l) ?_ h
  cases l <;> decide +kernel

/-- Reading a row list from its head. -/
theorem lookupState_cons {k : Byte} {j : Instr} {rest : List (Byte × Instr)} {c : Byte} {i : Instr}
    (h : lookupState ((k, j) :: rest) c = some i) : (c = k ∧ i = j) ∨ lookupState rest c = some i := by
  simp only [lookupState] at h
  split at h
  · rename_i e; injection h with h; exact .inl ⟨e.symm, h.symm⟩
  · exact .inr h

/-- What a tick does (R290, R295, R297): it runs the instruction at the control point; where there is none, a busy
server enters the sink and any other state stays. -/
theorem tick_cases :
    (∃ i, fetch s = some i ∧ tick s = exec i s) ∨
      (fetch s = none ∧ s.srv = .busy ∧ tick s = .next (raiseFatal s)) ∨
      (fetch s = none ∧ s.srv ≠ .busy ∧ tick s = .next s) := by
  unfold tick
  cases h : fetch s with
  | some i => exact .inl ⟨i, rfl, rfl⟩
  | none =>
    by_cases hb : s.srv = .busy
    · exact .inr (.inl ⟨rfl, hb, if_pos hb⟩)
    · exact .inr (.inr ⟨rfl, hb, if_neg hb⟩)

/-! ## The other agents -/

/-- TIME's step (R43): a running timer expires, any other state stays. -/
theorem expirePhase_cases :
    (s.phase = .running ∧ expirePhase s = { s with phase := .expired }) ∨ (s.phase ≠ .running ∧ expirePhase s = s) := by
  unfold expirePhase
  cases h : s.phase
  · exact .inr ⟨by decide, rfl⟩
  · exact .inl ⟨rfl, rfl⟩
  · exact .inr ⟨by decide, rfl⟩

/-- A host read that answers a next state is an aligned one in the block, and changes the word returned only (R310). -/
theorem hostReadStep_next {addr : Addr} {size : Nat} {t : State} (h : hostReadStep addr size s = .next t) :
    inRegBlock addr s = true ∧ hostAligned addr size s = true ∧ t = { s with hostData := hostWord (hostReg addr s) s } := by
  unfold hostReadStep at h
  split at h
  · cases h
  split at h
  · cases h
  rename_i h1 h2
  injection h with h
  exact ⟨by simpa using h1, by simpa using h2, h.symm⟩

/-- A host write that answers a next state is an aligned one in the block, and writes the record only (R311, R313). -/
theorem hostWriteStep_next {addr : Addr} {size : Nat} {w : Word} {t : State} (h : hostWriteStep addr size w s = .next t) :
    inRegBlock addr s = true ∧ hostAligned addr size s = true ∧
      t = { s with record := storeField (hostReg addr s) w s.record } := by
  unfold hostWriteStep at h
  split at h
  · cases h
  split at h
  · cases h
  rename_i h1 h2
  injection h with h
  exact ⟨by simpa using h1, by simpa using h2, h.symm⟩

/-- A host write reaches the request fields only: the status and the error code stay (R24, R313). -/
theorem storeField_status (r : HostReg) (w : Word) (c : Record) :
    (storeField r w c).statusBusy = c.statusBusy ∧ (storeField r w c).statusFatal = c.statusFatal ∧
      (storeField r w c).error = c.error := by
  cases r <;> exact ⟨rfl, rfl, rfl⟩

/-! ## Requests -/

/-- Whatever its row, a request of kind `k ≠ 0` is taken up (R290, R292). -/
theorem exec_request {k : Byte} (hk : k ≠ 0) : exec (decodeRequest k) s = .next (takeUp k s) := by
  unfold decodeRequest
  rw [if_neg hk]
  split
  · rename_i h; subst h; rfl
  split
  · rename_i h; subst h; rfl
  split
  · rename_i h; subst h; rfl
  repeat' split
  all_goals rfl

/-- An idle server answers a request with a code or accepts it (R290); any other server does nothing. -/
theorem takeUp_cases (k : Byte) :
    (s.srv = .idle ∧ ∃ c, validate k s = some c ∧ takeUp k s = post c s) ∨
      (s.srv = .idle ∧ validate k s = none ∧ takeUp k s = accept k s) ∨ (s.srv ≠ .idle ∧ takeUp k s = s) := by
  unfold takeUp
  cases h : s.srv with
  | idle =>
    cases hv : validate k s with
    | some c => exact .inl ⟨rfl, c, rfl, rfl⟩
    | none => exact .inr (.inl ⟨rfl, rfl, rfl⟩)
  | busy => exact .inr (.inr ⟨by decide, rfl⟩)
  | fatal => exact .inr (.inr ⟨by decide, rfl⟩)

/-- The codes validation answers (R293). -/
theorem validate_code {k : Byte} {c : BitVec 3} (h : validate k s = some c) : c = Code.parerr ∨ c = Code.notInitialized := by
  unfold validate at h
  repeat' split at h
  all_goals first | (injection h with h; subst h; decide) | cases h

end Sys2Proof.Machine
end

