-- ==== Sys2Proof/Laws/Steps.lean ====
section
/-! SUPPORT. The shared operations of the FSMs: for each, every field after it or every form it can take. -/

namespace Sys2Proof.Machine

/-! ## Card commands and runs of exchanges, field by field -/

section

variable (c : Byte) (a : BitVec 32) (l : List Byte) (s : State)

@[simp] theorem sendCommand_srv : (sendCommand c a s).2.srv = s.srv := by rw [(sendCommand_spec c a s).1]; rfl
@[simp] theorem sendCommand_live : (sendCommand c a s).2.live = s.live := by rw [(sendCommand_spec c a s).1]; rfl
@[simp] theorem sendCommand_fsm : (sendCommand c a s).2.fsm = s.fsm := by rw [(sendCommand_spec c a s).1]; rfl
@[simp] theorem sendCommand_record : (sendCommand c a s).2.record = s.record := by rw [(sendCommand_spec c a s).1]; rfl
@[simp] theorem sendCommand_dev : (sendCommand c a s).2.dev = s.dev := by rw [(sendCommand_spec c a s).1]; rfl
@[simp] theorem sendCommand_ctx : (sendCommand c a s).2.ctx = s.ctx := by rw [(sendCommand_spec c a s).1]; rfl
@[simp] theorem sendCommand_diag : (sendCommand c a s).2.diag = s.diag := by rw [(sendCommand_spec c a s).1]; rfl
@[simp] theorem sendCommand_hs : (sendCommand c a s).2.hs = s.hs := by rw [(sendCommand_spec c a s).1]; rfl
@[simp] theorem sendCommand_phase : (sendCommand c a s).2.phase = s.phase := by rw [(sendCommand_spec c a s).1]; rfl
@[simp] theorem sendCommand_mem : (sendCommand c a s).2.mem = s.mem := by rw [(sendCommand_spec c a s).1]; rfl
@[simp] theorem sendCommand_params : (sendCommand c a s).2.params = s.params := by rw [(sendCommand_spec c a s).1]; rfl
@[simp] theorem sendCommand_outside : (sendCommand c a s).2.outside = s.outside := by rw [(sendCommand_spec c a s).1]; rfl
@[simp] theorem sendCommand_hostData : (sendCommand c a s).2.hostData = s.hostData := by rw [(sendCommand_spec c a s).1]; rfl
@[simp] theorem sendCommand_cs : (sendCommand c a s).2.cs = true := (sendCommand_spec c a s).2.1

/-- The result of a card command is the last answer in the bus history (R87, R125). -/
theorem sendCommand_lastAnswer : lastAnswer (sendCommand c a s).2 = some (sendCommand c a s).1 :=
  (sendCommand_spec c a s).2.2.1

/-- A card command does not change what the phase timer says. -/
@[simp] theorem expired_sendCommand : expired (sendCommand c a s).2 = expired s := by unfold expired; rw [sendCommand_phase]

theorem sendAll_withBus : sendAll l s = withBus s (sendAll l s) := by obtain ⟨_, _, _, _, h⟩ := sendAll_spec l s; exact h

@[simp] theorem sendAll_srv : (sendAll l s).srv = s.srv := by rw [sendAll_withBus]; rfl
@[simp] theorem sendAll_live : (sendAll l s).live = s.live := by rw [sendAll_withBus]; rfl
@[simp] theorem sendAll_fsm : (sendAll l s).fsm = s.fsm := by rw [sendAll_withBus]; rfl
@[simp] theorem sendAll_record : (sendAll l s).record = s.record := by rw [sendAll_withBus]; rfl
@[simp] theorem sendAll_dev : (sendAll l s).dev = s.dev := by rw [sendAll_withBus]; rfl
@[simp] theorem sendAll_ctx : (sendAll l s).ctx = s.ctx := by rw [sendAll_withBus]; rfl
@[simp] theorem sendAll_diag : (sendAll l s).diag = s.diag := by rw [sendAll_withBus]; rfl
@[simp] theorem sendAll_hs : (sendAll l s).hs = s.hs := by rw [sendAll_withBus]; rfl
@[simp] theorem sendAll_phase : (sendAll l s).phase = s.phase := by rw [sendAll_withBus]; rfl
@[simp] theorem sendAll_mem : (sendAll l s).mem = s.mem := by rw [sendAll_withBus]; rfl
@[simp] theorem sendAll_params : (sendAll l s).params = s.params := by rw [sendAll_withBus]; rfl
@[simp] theorem sendAll_outside : (sendAll l s).outside = s.outside := by rw [sendAll_withBus]; rfl
@[simp] theorem sendAll_hostData : (sendAll l s).hostData = s.hostData := by rw [sendAll_withBus]; rfl
@[simp] theorem sendAll_cs : (sendAll l s).cs = s.cs := by obtain ⟨_, _, _, h, _⟩ := sendAll_spec l s; exact h

end

/-! ## Forms -/

/-- The protocol-error procedure (R230) either restarts at BusReset, one restart more, or completes. -/
theorem protocolError_cases (s : State) :
    (s.ctx.retry < s.params.initRetries ∧
        protocolError s = { s with ctx := { s.ctx with retry := s.ctx.retry + 1 }, fsm := Fsm.iBusReset }) ∨
      (¬ s.ctx.retry < s.params.initRetries ∧ protocolError s = complete Code.notInitialized (release s)) := by
  unfold protocolError
  by_cases h : s.ctx.retry < s.params.initRetries
  · rw [if_pos h]; exact .inl ⟨h, rfl⟩
  · rw [if_neg h]; exact .inr ⟨h, rfl⟩

/-- `takeCrc` changes the two CRC registers only. -/
theorem takeCrc_eq (b : Byte) (c : Context) :
    takeCrc b c = { c with crcCalc := (takeCrc b c).crcCalc, crcRecv := (takeCrc b c).crcRecv } := by
  unfold takeCrc; split; rfl; split <;> rfl

/-- `copyByte` stores the byte where its index lies in the window, and otherwise does nothing (R253). -/
theorem copyByte_cases (b : Byte) (s : State) :
    (inWindow s.ctx = true ∧ copyByte b s = dmaWrite (readAddr s.ctx) b s) ∨
      (inWindow s.ctx = false ∧ copyByte b s = s) := by
  unfold copyByte
  cases h : inWindow s.ctx
  · exact .inr ⟨rfl, rfl⟩
  · exact .inl ⟨rfl, rfl⟩

/-- `copyByte` changes memory only. -/
theorem copyByte_eq (b : Byte) (s : State) : copyByte b s = { s with mem := (copyByte b s).mem } := by
  rcases copyByte_cases b s with ⟨_, h⟩ | ⟨_, h⟩
  · rw [h]; rfl
  · rw [h]

/-- The end of a read (R254): the bus released, the count one up, the CRC reported, the request completed. -/
theorem completeRead_cases (s : State) :
    ∃ c, (c = Code.error ∨ c = Code.ok) ∧
      completeRead s =
        complete c
          { release s with
            dev := { s.dev with rdCount := s.dev.rdCount + 1 }
            diag :=
              { rdCrcCalc := s.ctx.crcCalc, rdCrcRecv := s.ctx.crcRecv,
                crcMismatch := decide (s.ctx.crcCalc ≠ s.ctx.crcRecv) } } := by
  unfold completeRead
  dsimp only
  split
  · exact ⟨_, .inl rfl, rfl⟩
  · exact ⟨_, .inr rfl, rfl⟩

/-- The failure exit of the CSD's command and token (R219, R220). -/
theorem zeroSectors_eq (s : State) :
    zeroSectors s = { release s with ctx := { s.ctx with sectorCount := 0 }, fsm := Fsm.iFinCommit } := rfl

/-- The exit of the busy wait (R276, R278). -/
theorem finishWrite_eq (c : BitVec 3) (s : State) :
    finishWrite c s = complete c { release s with dev := { s.dev with wrCount := s.dev.wrCount + 1 } } := rfl

/-- The window test of R253 as arithmetic. -/
theorem inWindow_iff (c : Context) :
    inWindow c = true ↔ c.snapOffset.toNat ≤ c.idx.toNat ∧ c.idx.toNat < c.snapOffset.toNat + c.snapCount.toNat := by
  simp [inWindow]

/-- A byte is no response exactly when it is 0x80 or more (R87). -/
theorem isResponse_false_iff (b : Byte) : isResponse b = false ↔ 0x80 ≤ b := by revert b; decide +kernel

end Sys2Proof.Machine
end

