-- ==== Sys2Proof/Tests/Slice0.lean ====
section
/-! SUPPORT. Small tests of the model against values of the spec (spec/95_test_vectors.md and the rules named), and for
every statement with hypotheses a witness that meets them. Expected values come from the spec, never from the model. -/

namespace Sys2Proof.Tests

open Machine Claims

-- One test after another: each kernel evaluation holds a thread of its own, and many at once exhaust the memory limit.
set_option Elab.async false

/-! ## States the tests start from -/

/-- The defaults of R7, and a base address for the register block. -/
def params : Params :=
  { regBase := 0x40000000, initRetries := 2, wrToken := 0xFE, csdV1Divide := false, crc16Enforce := false,
    dma := [⟨0, 2 ^ 32⟩] }

/-- Out of reset, every step a tick. -/
def base : State := { State.reset with params := params, outside := .script [] }

/-- The end state of V-INIT-1, as far as the tests read it. -/
def mounted : State :=
  { base with
    dev := { mounted := true, cardType := 0x0C, lastSector := 0x00ECDFFF, rdCount := 0, wrCount := 0 }, hs := true }

/-- A request in the record. -/
def asking (k d : Byte) (sector : BitVec 32) (count : BitVec 16) (s : State) : State :=
  { s with record := { s.record with kind := k, device := d, sector := sector, count := count } }

/-- A request runs in the state `code`; the card answers `card`, each response poll has a budget of 5. -/
def busyAt (l : Live) (code : Byte) (card : List Byte) : State :=
  { mounted with
    srv := .busy, live := l, fsm := code, record := { mounted.record with kind := 2, statusBusy := true }, cs := true
    card := card, polls := [4, 4] }

/-- The same, the phase timer run out. -/
def late (s : State) : State := { s with phase := .expired }

/-- What an instruction leaves. -/
def after (i : Instr) (s : State) : State :=
  match exec i s with
  | .next t => t
  | .fault _ => s
  | .refused _ => s

/-- What a step leaves. -/
def stepped (s : State) : State :=
  match step s with
  | .next t => t
  | .fault _ => s
  | .refused _ => s

/-- What the block drove: select and byte, exchange by exchange. -/
def wire (s : State) : List (Bool × Byte) := s.bus.map fun e => (e.cs, e.out)

/-- The wire of a command: idle pulse, frame, `m` polls (R123, R124). -/
def commandWire (bytes : List Byte) (m : Nat) : List (Bool × Byte) :=
  [(false, 0xFF), (true, 0xFF)] ++ bytes.map (fun b => (true, b)) ++ List.replicate m (true, 0xFF)

/-- Answers to a command: 8 bytes nobody reads, then the polled ones. -/
def answers (polled : List Byte) : List Byte := List.replicate 8 0xFF ++ polled

/-- A read in R_DATA with this window, at this index, the card's next byte `b`. -/
def reading (offset count : BitVec 16) (idx : BitVec 10) (b : Byte) : State :=
  { busyAt .read 0x32 [b] with
    ctx := { State.reset.ctx with snapBuf := 0x1000, snapOffset := offset, snapCount := count, idx := idx } }

/-- No address admitted. -/
def noDma (s : State) : State := { s with params := { s.params with dma := [] } }

/-! ## Well-formedness refuses a term outside its row's range -/

theorem test_wf_kind04 :
    wellFormed (.invalidKind04 0x03) = false ∧ wellFormed (.invalidKind04 0x08) = false ∧
      wellFormed (.invalidKind04 0x04) = true := by decide
theorem test_wf_kind08 :
    wellFormed (.invalidKind08 0x07) = false ∧ wellFormed (.invalidKind08 0x10) = false ∧
      wellFormed (.invalidKind08 0x0F) = true := by decide
theorem test_wf_kind10 :
    wellFormed (.invalidKind10 0x0F) = false ∧ wellFormed (.invalidKind10 0x20) = false ∧
      wellFormed (.invalidKind10 0x10) = true := by decide
theorem test_wf_kind20 :
    wellFormed (.invalidKind20 0x1F) = false ∧ wellFormed (.invalidKind20 0x40) = false ∧
      wellFormed (.invalidKind20 0x3F) = true := by decide
theorem test_wf_kind40 :
    wellFormed (.invalidKind40 0x3F) = false ∧ wellFormed (.invalidKind40 0x80) = false ∧
      wellFormed (.invalidKind40 0x40) = true := by decide
theorem test_wf_kind80 :
    wellFormed (.invalidKind80 0x7F) = false ∧ wellFormed (.invalidKind80 0x80) = true ∧
      wellFormed (.invalidKind80 0xFF) = true := by decide

/-! ## Decoding, word by word from R80, R86 and R97 -/

theorem test_decode_requests :
    decode .request8 [0x00] = .ok .reqNone [] ∧ decode .request8 [0x01] = .ok .reqInit [] ∧
      decode .request8 [0x02] = .ok .reqRead [] ∧ decode .request8 [0x03] = .ok .reqWrite [] ∧
      decode .request8 [0x07] = .ok (.invalidKind04 0x07) [] ∧ decode .request8 [0x08] = .ok (.invalidKind08 0x08) [] ∧
      decode .request8 [0x1F] = .ok (.invalidKind10 0x1F) [] ∧ decode .request8 [0x20] = .ok (.invalidKind20 0x20) [] ∧
      decode .request8 [0x7F] = .ok (.invalidKind40 0x7F) [] ∧ decode .request8 [0x80] = .ok (.invalidKind80 0x80) [] := by
  decide

theorem test_decode_commands :
    decode .frame48 [0x40, 0x00, 0x00, 0x00, 0x00, 0x95] = .ok .cmd0 [] ∧
      decode .frame48 [0x41, 0x00, 0x00, 0x00, 0x00, 0x01] = .ok .cmd1 [] ∧
      decode .frame48 [0x48, 0x00, 0x00, 0x01, 0xAA, 0x87] = .ok .cmd8 [] ∧
      decode .frame48 [0x49, 0x00, 0x00, 0x00, 0x00, 0x01] = .ok .cmd9 [] ∧
      decode .frame48 [0x50, 0x00, 0x00, 0x02, 0x00, 0x01] = .ok .cmd16 [] ∧
      decode .frame48 [0x51, 0x12, 0x34, 0x56, 0x78, 0x01] = .ok (.cmd17 0x12345678) [] := by decide

theorem test_decode_commands_more :
    decode .frame48 [0x58, 0x00, 0x00, 0x00, 0x07, 0x01] = .ok (.cmd24 7) [] ∧
      decode .frame48 [0x77, 0x00, 0x00, 0x00, 0x00, 0x01] = .ok .cmd55 [] ∧
      decode .frame48 [0x7A, 0x00, 0x00, 0x00, 0x00, 0x01] = .ok .cmd58 [] ∧
      decode .frame48 [0x7B, 0x00, 0x00, 0x00, 0x00, 0x01] = .ok .cmd59 [] ∧
      decode .frame48 [0x69, 0x40, 0x00, 0x00, 0x00, 0x01] = .ok .acmd41Hcs [] ∧
      decode .frame48 [0x69, 0x00, 0x00, 0x00, 0x00, 0x01] = .ok .acmd41 [] := by decide

theorem test_decode_init_states :
    decode .state8 [0x00] = .ok .stateNone [] ∧ decode .state8 [0x10] = .ok .stateIEnter [] ∧
      decode .state8 [0x11] = .ok .stateIBusReset [] ∧ decode .state8 [0x12] = .ok .stateIWaitPower [] ∧
      decode .state8 [0x13] = .ok .stateISendReset [] ∧ decode .state8 [0x14] = .ok .stateICheckVersion [] ∧
      decode .state8 [0x15] = .ok .stateISendIfCond [] ∧ decode .state8 [0x16] = .ok .stateICollectEcho [] ∧
      decode .state8 [0x17] = .ok .stateIValidateEcho [] ∧ decode .state8 [0x18] = .ok .stateIPollOpCond [] ∧
      decode .state8 [0x19] = .ok .stateIReadOcr [] ∧ decode .state8 [0x1A] = .ok .stateIClassify [] := by decide

theorem test_decode_legacy_states :
    decode .state8 [0x1B] = .ok .stateISelectLegacy [] ∧ decode .state8 [0x1C] = .ok .stateIPollLegacy [] ∧
      decode .state8 [0x1D] = .ok .stateIDisableCrc [] ∧ decode .state8 [0x1E] = .ok .stateISetBlklen [] ∧
      decode .state8 [0x1F] = .ok .stateIFinCsdCmd [] ∧ decode .state8 [0x20] = .ok .stateIFinCsdToken [] ∧
      decode .state8 [0x21] = .ok .stateIFinCsdData [] ∧ decode .state8 [0x22] = .ok .stateIFinCommit [] := by decide

theorem test_decode_transfer_states :
    decode .state8 [0x30] = .ok .stateRSend [] ∧ decode .state8 [0x31] = .ok .stateRToken [] ∧
      decode .state8 [0x32] = .ok .stateRData [] ∧ decode .state8 [0x40] = .ok .stateWSend [] ∧
      decode .state8 [0x41] = .ok .stateWToken [] ∧ decode .state8 [0x42] = .ok .stateWData [] ∧
      decode .state8 [0x43] = .ok .stateWCrc [] ∧ decode .state8 [0x44] = .ok .stateWDresp [] ∧
      decode .state8 [0x45] = .ok .stateWBusy [] := by decide

/-- R83 to R86, R97: what is refused, and why. -/
theorem test_decode_refuses :
    decode .frame48 [0x40, 0x00, 0x00, 0x00, 0x00, 0x94] = .reject .badCrc ∧
      decode .frame48 [0x40, 0x00, 0x00, 0x00, 0x01, 0x95] = .reject .badArgument ∧
      decode .frame48 [0x42, 0x00, 0x00, 0x00, 0x00, 0x01] = .reject .unknownIndex ∧
      decode .frame48 [0xC0, 0x00, 0x00, 0x00, 0x00, 0x95] = .reject .badStartBits ∧
      decode .frame48 [0x40, 0x00] = .reject .tooShort ∧ decode .state8 [0x46] = .reject .undefinedState := by decide

/-- The placed word runs at the next step: a request, a state, a command inside the state that sends it. -/
theorem test_placed_words :
    (fetch (base.withFetchWord 8 0x02) = some .reqRead ∧ fetch (base.withFetchWord 8 0x80) = some (.invalidKind80 0x80)) ∧
      fetch (base.withFetchWord 8 0x32) = some .stateRData ∧
      (fetch (base.withFetchWord 48 0x511234567801) = some .stateRSend ∧
        (base.withFetchWord 48 0x511234567801).ctx.snapSector = 0x12345678) := by decide

/-! ## CRC (R163, R164, R168; V-CRC) -/

/-- V-CRC-1, V-CRC-2, V-CRC-3, V-CRC-5. -/
theorem test_crc7 :
    crc7 [0x40, 0, 0, 0, 0] = 0x4A ∧ crc7 [0x48, 0, 0, 0x01, 0xAA] = 0x43 ∧
      crc7 [0x31, 0x32, 0x33, 0x34, 0x35, 0x36, 0x37, 0x38, 0x39] = 0x75 ∧ crc7 [0x51, 0x12, 0x34, 0x56, 0x78] = 0x2E := by
  decide +kernel

/-- V-CRC-6, V-CRC-11, and R168's two-byte value. -/
theorem test_crc16 :
    crc16 [0x31, 0x32, 0x33, 0x34, 0x35, 0x36, 0x37, 0x38, 0x39] = 0x31C3 ∧ crc16Upd 0 0x01 = 0x1021 ∧
      crc16 [0x12, 0x34] = 0x13C6 := by decide +kernel

/-- V-CRC-12, and R168's other CSD. -/
theorem test_crc16_csd :
    crc16 [0x40, 0x0E, 0x00, 0x32, 0x5B, 0x59, 0x00, 0x00, 0x3B, 0x37, 0x7F, 0x80, 0x0A, 0x40, 0x00, 0x8B] = 0x7404 ∧
      crc16 [0x00, 0x26, 0x00, 0x32, 0x5F, 0x5A, 0x83, 0xAE, 0xFE, 0xFB, 0xCF, 0xFF, 0x92, 0x80, 0x40, 0xDF] = 0x9FC5 := by
  decide +kernel

/-! ## Capacity (R187 to R189; V-CAP) -/

/-- The v2 CSD of R187, its trailer after it. -/
def csdSdhc : Vector Byte 18 :=
  #v[0x40, 0x0E, 0x00, 0x32, 0x5B, 0x59, 0x00, 0x00, 0x3B, 0x37, 0x7F, 0x80, 0x0A, 0x40, 0x00, 0x8B, 0x74, 0x04]

/-- The v1 CSD of R188. -/
def csdSdsc : Vector Byte 18 :=
  #v[0x00, 0x26, 0x00, 0x32, 0x5F, 0x5A, 0x83, 0xAE, 0xFE, 0xFB, 0xCF, 0xFF, 0x92, 0x80, 0x40, 0xDF, 0x9F, 0xC5]

/-- V-CAP-1 to V-CAP-3. -/
theorem test_capacity :
    decodeCsd false csdSdhc = 15523840 ∧ decodeCsd false csdSdsc = 1977614336 ∧ decodeCsd true csdSdsc = 3862528 := by
  decide +kernel

/-- V-CAP-4, V-CAP-5, V-CAP-7 (structure 2 decodes as v1). -/
theorem test_capacity_corners :
    decodeCsd true #v[0x40, 0, 0, 0, 0, 0, 0, 0, 0, 0, 0, 0, 0, 0, 0, 0, 0, 0] = 1024 ∧
      decodeCsd false #v[0x40, 0, 0, 0, 0, 0, 0, 0x3F, 0xFF, 0xFF, 0, 0, 0, 0, 0, 0, 0, 0] = 0 ∧
      decodeCsd false #v[0x80, 0, 0, 0, 0, 0x09, 0, 0, 0, 0, 0, 0, 0, 0, 0, 0, 0, 0] = 2048 := by decide +kernel

/-! ## Commands (V-COD) -/

/-- The card's polled answers, its first response poll having a budget of `n + 1`. -/
def carded (n : Nat) (polled : List Byte) : State := { base with card := answers polled, polls := [n, n] }

/-- V-COD-1. -/
theorem test_cmd0 :
    wire (after .cmd0 (carded 4 [0xFF, 0x01])) = commandWire [0x40, 0x00, 0x00, 0x00, 0x00, 0x95] 2 ∧
      lastAnswer (after .cmd0 (carded 4 [0xFF, 0x01])) = some 0x01 ∧ (after .cmd0 (carded 4 [0xFF, 0x01])).cs = true := by
  decide +kernel

/-- R86. -/
theorem test_cmd1 :
    wire (after .cmd1 (carded 4 [0xFF, 0x01])) = commandWire [0x41, 0x00, 0x00, 0x00, 0x00, 0x01] 2 := by decide +kernel

/-- V-COD-2. -/
theorem test_cmd8 :
    wire (after .cmd8 (carded 4 [0xFF, 0x01])) = commandWire [0x48, 0x00, 0x00, 0x01, 0xAA, 0x87] 2 := by decide +kernel

/-- V-COD-5: a response at the budget's end is taken. -/
theorem test_cmd9 :
    wire (after .cmd9 (carded 1 [0xFF, 0x00])) = commandWire [0x49, 0x00, 0x00, 0x00, 0x00, 0x01] 2 ∧
      lastAnswer (after .cmd9 (carded 1 [0xFF, 0x00])) = some 0x00 := by decide +kernel

/-- R86. -/
theorem test_cmd16 :
    wire (after .cmd16 (carded 4 [0x00])) = commandWire [0x50, 0x00, 0x00, 0x02, 0x00, 0x01] 1 := by decide +kernel

/-- V-COD-3: no answer within a budget of 5 gives the sentinel. -/
theorem test_cmd17 :
    wire (after (.cmd17 5) (carded 4 (List.replicate 9 0xFF))) = commandWire [0x51, 0x00, 0x00, 0x00, 0x05, 0x01] 5 ∧
      lastAnswer (after (.cmd17 5) (carded 4 (List.replicate 9 0xFF))) = some 0xFF := by decide +kernel

/-- V-COD-4: at least one poll. -/
theorem test_cmd17_one_poll :
    wire (after (.cmd17 5) (carded 0 [0xFF])) = commandWire [0x51, 0x00, 0x00, 0x00, 0x05, 0x01] 1 := by decide +kernel

/-- R86. -/
theorem test_cmd24 :
    wire (after (.cmd24 7) (carded 4 [0x00])) = commandWire [0x58, 0x00, 0x00, 0x00, 0x07, 0x01] 1 := by decide +kernel

/-- R86, R122. -/
theorem test_cmd55 :
    wire (after .cmd55 (carded 4 [0x01])) = commandWire [0x77, 0x00, 0x00, 0x00, 0x00, 0x01] 1 := by decide +kernel

/-- R86. -/
theorem test_cmd58 :
    wire (after .cmd58 (carded 4 [0x00])) = commandWire [0x7A, 0x00, 0x00, 0x00, 0x00, 0x01] 1 := by decide +kernel

/-- R86. -/
theorem test_cmd59 :
    wire (after .cmd59 (carded 4 [0x00])) = commandWire [0x7B, 0x00, 0x00, 0x00, 0x00, 0x01] 1 := by decide +kernel

/-- V-COD-6. -/
theorem test_acmd41_hcs :
    wire (after .acmd41Hcs (carded 4 ([0xFF, 0x01] ++ answers [0xFF, 0x00]))) =
        commandWire [0x77, 0x00, 0x00, 0x00, 0x00, 0x01] 2 ++ commandWire [0x69, 0x40, 0x00, 0x00, 0x00, 0x01] 2 ∧
      lastAnswer (after .acmd41Hcs (carded 4 ([0xFF, 0x01] ++ answers [0xFF, 0x00]))) = some 0x00 := by decide +kernel

/-- V-COD-7: the short-circuit. -/
theorem test_acmd41_short :
    wire (after .acmd41 (carded 4 [0xFF, 0x05])) = commandWire [0x77, 0x00, 0x00, 0x00, 0x00, 0x01] 2 ∧
      lastAnswer (after .acmd41 (carded 4 [0xFF, 0x05])) = some 0x05 := by decide +kernel

/-- V-COD-8. -/
theorem test_acmd41 :
    wire (after .acmd41 (carded 4 ([0xFF, 0x01] ++ answers [0xFF, 0x05]))) =
        commandWire [0x77, 0x00, 0x00, 0x00, 0x00, 0x01] 2 ++ commandWire [0x69, 0x00, 0x00, 0x00, 0x00, 0x01] 2 ∧
      lastAnswer (after .acmd41 (carded 4 ([0xFF, 0x01] ++ answers [0xFF, 0x05]))) = some 0x05 := by decide +kernel

/-- V-COD-9. -/
theorem test_release : wire (release { base with cs := true, card := [0x5A] }) = [(false, 0xFF)] := by decide

/-! ## Requests (V-SRV) -/

/-- The result code, the pending kind, and whether the server went busy. -/
def verdict (i : Instr) (s : State) : BitVec 3 × Byte × Srv :=
  ((after i s).record.error, (after i s).record.kind, (after i s).srv)

/-- V-SRV-14. -/
theorem test_none : after .reqNone base = base ∧ after .stateNone base = base := by decide +kernel

/-- V-SRV-3. -/
theorem test_init_bad_device : verdict .reqInit (asking 1 1 0 0 base) = (3, 0, .idle) := by decide

/-- R294: an accepted INIT, its kind still pending. -/
theorem test_init_accepted :
    verdict .reqInit (asking 1 0 0 0 base) = (0, 1, .busy) ∧ (after .reqInit (asking 1 0 0 0 base)).fsm = 0x10 := by decide

/-- V-SRV-4 to V-SRV-6, V-SRV-10. -/
theorem test_read_rejected :
    verdict .reqRead (asking 2 0 0 1 base) = (1, 0, .idle) ∧ verdict .reqRead (asking 2 0 1 1 base) = (3, 0, .idle) ∧
      verdict .reqRead (asking 2 0 0 0 base) = (3, 0, .idle) ∧
      verdict .reqRead (asking 2 0 0x00ECE000 1 mounted) = (3, 0, .idle) := by decide

/-- V-SRV-8. -/
theorem test_read_accepted :
    verdict .reqRead (asking 2 0 0x00ECDFFF 1 mounted) = (0, 2, .busy) ∧
      (after .reqRead (asking 2 0 0x00ECDFFF 1 mounted)).fsm = 0x30 ∧
      (after .reqRead (asking 2 0 0x00ECDFFF 1 mounted)).ctx.snapSector = 0x00ECDFFF := by decide

/-- V-SRV-7, V-SRV-13. -/
theorem test_write_rejected :
    verdict .reqWrite (asking 3 0 0 0 base) = (1, 0, .idle) ∧
      verdict .reqWrite (asking 3 0 0x00ECE000 0 mounted) = (3, 0, .idle) := by decide

/-- R293: a write has no count check. -/
theorem test_write_accepted :
    verdict .reqWrite (asking 3 0 7 0 mounted) = (0, 3, .busy) ∧ (after .reqWrite (asking 3 0 7 0 mounted)).fsm = 0x40 := by
  decide

/-- V-SRV-1, V-SRV-2, V-SRV-19 and one of each other row. -/
theorem test_invalid_kinds :
    verdict (.invalidKind04 7) (asking 7 0 0 0 base) = (3, 0, .idle) ∧
      verdict (.invalidKind08 8) (asking 8 0 0 0 base) = (3, 0, .idle) ∧
      verdict (.invalidKind10 0x10) (asking 0x10 0 0 0 mounted) = (3, 0, .idle) ∧
      verdict (.invalidKind20 0x20) (asking 0x20 0 0 0 mounted) = (3, 0, .idle) ∧
      verdict (.invalidKind40 0x78) (asking 0x78 0 0 0 mounted) = (3, 0, .idle) ∧
      verdict (.invalidKind80 0x80) (asking 0x80 0 0 0 base) = (3, 0, .idle) := by decide

/-! ## Initialization (R201 to R231; V-INIT) -/

/-- What the tests read after an initialization micro-step: state, speed, restarts, type, bytes on the wire. -/
def init (i : Instr) (s : State) : Byte × Byte × Nat := ((after i s).fsm, (after i s).ctx.pendType, (after i s).bus.length)

/-- R201: down to low speed, the mounted card kept. -/
theorem test_enter :
    (after .stateIEnter (busyAt .init 0x10 [])).hs = false ∧ (after .stateIEnter (busyAt .init 0x10 [])).fsm = 0x11 ∧
      (after .stateIEnter (busyAt .init 0x10 [])).dev = mounted.dev := by decide

/-- R202: ten fill bytes, deselected. -/
theorem test_bus_reset :
    wire (after .stateIBusReset (busyAt .init 0x11 [])) = List.replicate 10 (false, 0xFF) ∧
      (after .stateIBusReset (busyAt .init 0x11 [])).phase = .running ∧
      (after .stateIBusReset (busyAt .init 0x11 [])).fsm = 0x12 := by decide

/-- R203. -/
theorem test_wait_power :
    (after .stateIWaitPower (busyAt .init 0x12 [])).fsm = 0x12 ∧
      (after .stateIWaitPower (late (busyAt .init 0x12 []))).fsm = 0x13 ∧
      (after .stateIWaitPower (late (busyAt .init 0x12 []))).phase = .running := by decide

/-- R204: 0x01 passes although the timer has run out; 0x00 is retried. -/
theorem test_send_reset :
    init .stateISendReset (late (busyAt .init 0x13 (answers [0x01]))) = (0x14, 0, 9) ∧
      init .stateISendReset (busyAt .init 0x13 (answers [0x00])) = (0x13, 0, 9) := by decide +kernel

/-- V-INIT-6: the sentinel at the timer's end, with no restart left, releases the bus and gives up. -/
theorem test_send_reset_gives_up :
    (after .stateISendReset
          { late (busyAt .init 0x13 []) with
            card := List.replicate 14 0xFF, ctx := { State.reset.ctx with retry := 2 } }).record.error = 1 ∧
      (after .stateISendReset
          { late (busyAt .init 0x13 []) with
            card := List.replicate 14 0xFF, ctx := { State.reset.ctx with retry := 2 } }).bus.length = 14 := by
  decide +kernel

/-- R205. -/
theorem test_check_version :
    init .stateICheckVersion (busyAt .init 0x14 (answers [0x01])) = (0x15, 0, 9) ∧
      init .stateICheckVersion (busyAt .init 0x14 (answers [0x05])) = (0x1B, 0, 9) := by decide +kernel

/-- R206. -/
theorem test_send_if_cond :
    (after .stateISendIfCond { busyAt .init 0x15 [] with ctx := { State.reset.ctx with echoIdx := 3 } }).ctx.echoIdx = 0 ∧
      (after .stateISendIfCond (busyAt .init 0x15 [])).fsm = 0x16 := by decide

/-- R207: the fourth byte. -/
theorem test_collect_echo :
    (after .stateICollectEcho { busyAt .init 0x16 [0xAA] with ctx := { State.reset.ctx with echoIdx := 3 } }).ctx.echo =
        #v[0, 0, 0, 0xAA] ∧
      (after .stateICollectEcho { busyAt .init 0x16 [0xAA] with ctx := { State.reset.ctx with echoIdx := 3 } }).fsm = 0x17 := by
  decide

/-- V-INIT-11 and the matching echo. -/
theorem test_validate_echo :
    (after .stateIValidateEcho { busyAt .init 0x17 [] with ctx := { State.reset.ctx with echo := #v[0, 0, 1, 0x55] } }).fsm =
        0x1B ∧
      (after .stateIValidateEcho { busyAt .init 0x17 [] with ctx := { State.reset.ctx with echo := #v[0, 0, 1, 0xAA] } }).fsm =
        0x18 := by decide

/-- R210, V-INIT-7: ready, and the restart at BusReset. -/
theorem test_poll_op_cond :
    init .stateIPollOpCond (busyAt .init 0x18 (answers [0x01] ++ answers [0x00])) = (0x19, 0, 18) ∧
      (after .stateIPollOpCond (late (busyAt .init 0x18 (answers [0x01] ++ answers [0x01])))).fsm = 0x11 ∧
      (after .stateIPollOpCond (late (busyAt .init 0x18 (answers [0x01] ++ answers [0x01])))).ctx.retry = 1 := by
  decide +kernel

/-- R211, V-INIT-12: CMD58's failure restarts; its success goes on to the bytes. -/
theorem test_read_ocr_command :
    (after .stateIReadOcr (busyAt .init 0x19 (answers [0x04]))).fsm = 0x11 ∧
      (after .stateIReadOcr (busyAt .init 0x19 (answers [0x00]))).ctx.ocrIdx = 1 := by decide +kernel

/-- R211: the first and the fourth OCR byte. -/
theorem test_read_ocr_bytes :
    (after .stateIReadOcr { busyAt .init 0x19 [0xC0] with ctx := { State.reset.ctx with ocrIdx := 1 } }).ctx.ocr =
        #v[0xC0, 0, 0, 0] ∧
      (after .stateIReadOcr { busyAt .init 0x19 [0x11] with ctx := { State.reset.ctx with ocrIdx := 4 } }).fsm = 0x1A := by
  decide

/-- R212: the OCR of the SDHC card, and of V-INIT-3's. -/
theorem test_classify :
    init .stateIClassify { busyAt .init 0x1A [] with ctx := { State.reset.ctx with ocr := #v[0xC0, 0xFF, 0x80, 0] } } =
        (0x1F, 0x0C, 0) ∧
      init .stateIClassify { busyAt .init 0x1A [] with ctx := { State.reset.ctx with ocr := #v[0x80, 0xFF, 0x80, 0] } } =
        (0x1F, 0x04, 0) := by decide

/-- R215: program P7's probe, and program P8's. -/
theorem test_select_legacy :
    init .stateISelectLegacy (busyAt .init 0x1B (answers [0x01] ++ answers [0x01])) = (0x1C, 0x02, 18) ∧
      init .stateISelectLegacy (busyAt .init 0x1B (answers [0x01] ++ answers [0x05])) = (0x1C, 0x01, 18) := by decide +kernel

/-- R216: CMD1 for an MMC, ready. -/
theorem test_poll_legacy :
    wire (after .stateIPollLegacy
            { busyAt .init 0x1C (answers [0x00]) with ctx := { State.reset.ctx with pollCmd := 0x01 } }) =
        commandWire [0x41, 0x00, 0x00, 0x00, 0x00, 0x01] 1 ∧
      (after .stateIPollLegacy
          { busyAt .init 0x1C (answers [0x00]) with ctx := { State.reset.ctx with pollCmd := 0x01 } }).fsm = 0x1D := by
  decide +kernel

/-- V-INIT-14. -/
theorem test_disable_crc :
    init .stateIDisableCrc (busyAt .init 0x1D (answers [0xFF, 0xFF, 0xFF, 0xFF, 0xFF])) = (0x1E, 0, 13) := by decide +kernel

/-- R218, V-INIT-13. -/
theorem test_set_blklen :
    init .stateISetBlklen (busyAt .init 0x1E (answers [0x00])) = (0x1F, 0, 9) ∧
      init .stateISetBlklen (busyAt .init 0x1E (answers [0x01])) = (0x11, 0, 9) := by decide +kernel

/-- V-CAP-8: the failure releases the bus. -/
theorem test_csd_command :
    init .stateIFinCsdCmd (busyAt .init 0x1F (answers [0x04])) = (0x22, 0, 10) ∧
      (after .stateIFinCsdCmd (busyAt .init 0x1F (answers [0x04]))).cs = false ∧
      init .stateIFinCsdCmd (busyAt .init 0x1F (answers [0x00])) = (0x20, 0, 9) := by decide +kernel

/-- R220, V-CAP-9. -/
theorem test_csd_token :
    init .stateIFinCsdToken (late (busyAt .init 0x20 [0xFE])) = (0x21, 0, 1) ∧
      init .stateIFinCsdToken (busyAt .init 0x20 [0xFF]) = (0x20, 0, 1) ∧
      init .stateIFinCsdToken (late (busyAt .init 0x20 [0xFF])) = (0x22, 0, 2) := by decide

/-- R221, V-CAP-1: the eighteenth byte, the capacity decoded. -/
theorem test_csd_data :
    (after .stateIFinCsdData
          { busyAt .init 0x21 [0x04] with ctx := { State.reset.ctx with csd := csdSdhc, csdIdx := 17 } }).ctx.sectorCount =
        0x00ECE000 ∧
      (after .stateIFinCsdData
          { busyAt .init 0x21 [0x04] with ctx := { State.reset.ctx with csd := csdSdhc, csdIdx := 17 } }).fsm = 0x22 := by
  decide +kernel

/-- R222, V-INIT-1's descriptor. -/
theorem test_commit :
    (after .stateIFinCommit
          { busyAt .init 0x22 [] with ctx := { State.reset.ctx with sectorCount := 0x00ECE000, pendType := 0x0C } }).dev =
        mounted.dev ∧
      verdict .stateIFinCommit (busyAt .init 0x22 []) = (0, 0, .idle) := by decide

/-- R185, V-CAP-8: zero sectors give the largest bound. -/
theorem test_commit_zero : (after .stateIFinCommit (busyAt .init 0x22 [])).dev.lastSector = 0xFFFFFFFF := by decide

/-! ## Reading (R251 to R254; V-RD) -/

/-- R251, V-RD-5. -/
theorem test_read_send :
    (after .stateRSend (busyAt .read 0x30 (answers [0x00]))).fsm = 0x31 ∧
      verdict .stateRSend (busyAt .read 0x30 (answers [0xFF, 0x04])) = (2, 0, .idle) ∧
      (after .stateRSend (busyAt .read 0x30 (answers [0xFF, 0x04]))).bus.length = 11 := by decide +kernel

/-- R252: the token wins over the timer; V-RD-3; V-RD-4. -/
theorem test_read_token :
    (after .stateRToken (late (busyAt .read 0x31 [0xFE]))).fsm = 0x32 ∧
      verdict .stateRToken (busyAt .read 0x31 [0x05]) = (2, 0, .idle) ∧
      verdict .stateRToken (late (busyAt .read 0x31 [0xFF])) = (2, 0, .idle) ∧
      verdict .stateRToken (busyAt .read 0x31 [0xFF]) = (0, 2, .busy) := by decide

/-- V-RD-6: byte 510 goes to the buffer's first byte, the low CRC byte to its fourth. -/
theorem test_read_data_window :
    memRead (after .stateRData (reading 510 10 510 0x21)).mem 0x1000 = 0x21 ∧
      memRead (after .stateRData (reading 510 10 513 0xDB)).mem 0x1003 = 0xDB ∧
      (after .stateRData (reading 510 10 509 0x20)).mem = [] ∧
      (after .stateRData (reading 0xFFFF 0xFFFF 513 0xDB)).mem = [] := by decide +kernel

/-- V-RD-12, V-RD-13: the last byte completes and counts; a mismatch is an error only where it is enforced. -/
theorem test_read_data_last :
    (after .stateRData (reading 0 1 513 0xDA)).dev.rdCount = 1 ∧
      verdict .stateRData (reading 0 1 513 0xDA) = (0, 0, .idle) ∧
      (after .stateRData (reading 0 1 513 0xDA)).diag.crcMismatch = true ∧
      verdict .stateRData { reading 0 1 513 0xDA with params := { params with crc16Enforce := true } } = (2, 0, .idle) := by
  decide +kernel

/-! ## Writing (R271 to R276; V-WR) -/

/-- R271, V-WR-5. -/
theorem test_write_send :
    (after .stateWSend (busyAt .write 0x40 (answers [0x00]))).fsm = 0x41 ∧
      verdict .stateWSend (busyAt .write 0x40 (answers [0xFF, 0x04])) = (2, 0, .idle) := by decide +kernel

/-- R272. -/
theorem test_write_token :
    wire (after .stateWToken (busyAt .write 0x41 [0xFF])) = [(true, 0xFE)] ∧
      (after .stateWToken (busyAt .write 0x41 [0xFF])).fsm = 0x42 := by decide

/-- R273: byte 511 is the last, and the buffer wraps at the top of memory. -/
theorem test_write_data :
    wire (after .stateWData
            { busyAt .write 0x42 [0xFF] with
              mem := [(0x1FF, 0xFD)], ctx := { State.reset.ctx with idx := 511 } }) = [(true, 0xFD)] ∧
      (after .stateWData { busyAt .write 0x42 [0xFF] with ctx := { State.reset.ctx with idx := 511 } }).fsm = 0x43 ∧
      wire (after .stateWData
            { busyAt .write 0x42 [0xFF] with
              mem := [(1, 0x33)], ctx := { State.reset.ctx with idx := 2, snapBuf := 0xFFFFFFFF } }) = [(true, 0x33)] := by
  decide +kernel

/-- R274. -/
theorem test_write_crc :
    wire (after .stateWCrc { busyAt .write 0x43 [0] with ctx := { State.reset.ctx with idx := 1 } }) = [(true, 0xFF)] ∧
      (after .stateWCrc { busyAt .write 0x43 [0] with ctx := { State.reset.ctx with idx := 1 } }).fsm = 0x44 ∧
      (after .stateWCrc (busyAt .write 0x43 [0])).fsm = 0x43 := by decide

/-- V-WR-3, V-WR-7 and R277: the low five bits decide. -/
theorem test_write_response :
    verdict .stateWDresp (busyAt .write 0x44 [0x0B]) = (5, 0, .idle) ∧
      verdict .stateWDresp (busyAt .write 0x44 [0xFF]) = (5, 0, .idle) ∧
      (after .stateWDresp (busyAt .write 0x44 [0xE5])).fsm = 0x45 := by decide

/-- V-WR-2, V-WR-4 and R276: the byte is tested before the timer. -/
theorem test_write_busy :
    verdict .stateWBusy (late (busyAt .write 0x45 [0xFF])) = (0, 0, .idle) ∧
      verdict .stateWBusy (late (busyAt .write 0x45 [0x00])) = (4, 0, .idle) ∧
      (after .stateWBusy (late (busyAt .write 0x45 [0x00]))).dev.wrCount = 1 ∧
      verdict .stateWBusy (busyAt .write 0x45 [0x00]) = (0, 2, .busy) := by decide

/-! ## The host and reset (V-SRV, V-RST) -/

/-- One step of the named agent. -/
def upon (e : Event) (s : State) : State := { s with outside := .script [e] }

/-- P6's and P1's DIAG, P1's DEVSTAT, V-RD-12's RD_CRC. -/
theorem test_host_reads :
    hostWord .diag { base with ctx := { State.reset.ctx with retry := 2 } } = 0x00020000 ∧
      hostWord .diag mounted = 0x00000004 ∧ hostWord .devstat mounted = 0x00000C01 ∧
      hostWord .rdCrc { base with diag := { crcMismatch := true, rdCrcCalc := 0x30DB, rdCrcRecv := 0x30DA } } = 0x30DB30DA := by
  decide

/-- V-SRV-16: BUSY without PENDING. -/
theorem test_status : hostWord .status { busyAt .read 0x32 [] with record := { base.record with statusBusy := true } } = 1 := by
  decide

/-- V-SRV-18, V-SRV-19. -/
theorem test_host_writes :
    (stepped (upon (.hostWrite 0x40000000 4 0x12345678) base)).record.kind = 0x78 ∧
      (stepped (upon (.hostWrite 0x40000024 4 0xFFFFFFFF) base)).dev = base.dev ∧
      (stepped (upon (.hostWrite 0x40000018 4 0xFFFFFFFF) base)).record = base.record := by decide +kernel

/-- V-SRV-17. -/
theorem test_host_refused : step (upon (.hostWrite 0x40000001 1 0) base) = .fault (.hostAccessRefused 0x40000001 1) := rfl

/-- The word a finished host program's last read returned. -/
def readBack (o : HostRun) : Option Word :=
  match o with
  | .finished s => some s.hostData
  | .running _ _ => none
  | .fault _ => none
  | .refused _ => none

/-- The statements a host program has still to run. -/
def stillToRun (o : HostRun) : List HostStmt :=
  match o with
  | .running rest _ => rest
  | .finished _ => []
  | .fault _ => []
  | .refused _ => []

/-- `n` turns of the program alone. -/
def alone (n : Nat) : List Turn := List.replicate n .program

/-- R104's READ and WRITE, run by the host's accesses: V-SRV-4, V-SRV-5, V-SRV-6 and V-SRV-7 as the host sees them. -/
theorem test_host_requests :
    readBack (runHost (alone 8) (hostRead 0x1000 0 0 1) base) = some 1 ∧
      readBack (runHost (alone 8) (hostRead 0x1000 1 0 1) base) = some 3 ∧
      readBack (runHost (alone 8) (hostRead 0x1000 0 0 0) base) = some 3 ∧
      readBack (runHost (alone 6) (hostWrite 0x1000 0) base) = some 1 := by decide +kernel

/-- V-INIT-6's block: no restart allowed, a card that answers 0xFF, a poll budget of 5. -/
def silentCard : State :=
  { base with params := { params with initRetries := 0 }, card := List.replicate 24 0xFF, polls := [4] }

/-- R103: while TIME lets no timer run out, INIT's WAIT does not end and ERROR is not read. -/
theorem test_wait_goes_on : stillToRun (runHost (alone 9) hostInit silentCard) = [.wait, .rd .error] := by decide +kernel

/-- V-INIT-6: `T_POWER` and `T_RESET` run out between the WAIT's 5 pulses, and ERROR reads NOT_INITIALIZED. -/
theorem test_wait_ends :
    readBack (runHost (alone 5 ++ .other .expire :: .program :: .other .expire :: alone 2) hostInit silentCard) = some 1 := by
  decide +kernel

/-- V-RST-1: in the middle of a read; memory keeps its bytes, no byte is sent. -/
theorem test_reset :
    hostWord .diag (stepped (upon .reset { reading 0 512 300 0x55 with mem := [(0x1000, 0x23)] })) = 0 ∧
      hostWord .devstat (stepped (upon .reset (reading 0 512 300 0x55))) = 0 ∧
      (stepped (upon .reset { reading 0 512 300 0x55 with mem := [(0x1000, 0x23)] })).mem = [(0x1000, 0x23)] ∧
      (stepped (upon .reset (reading 0 512 300 0x55))).bus = [] := by decide +kernel

/-- V-RST-4. -/
theorem test_sink :
    (stepped { busyAt .read 0x23 [] with outside := .script [] }).srv = .fatal ∧
      hostWord .status (stepped (busyAt .read 0x23 [])) = 7 ∧
      stepped { asking 1 0 0 0 base with srv := .fatal } = { asking 1 0 0 0 base with srv := .fatal } := by decide +kernel

/-! ## Witnesses: a state and operands that meet a statement's hypotheses, clause by clause, at the ends of their ranges -/

theorem witness_DecodeInvertsEncode :
    wellFormed (.cmd17 0xFFFFFFFF) = true ∧ wellFormed (.invalidKind04 0x07) = true ∧ wellFormed .stateWBusy = true := by
  decide

theorem witness_EncodeInvertsDecode :
    decode .frame48 [0x58, 0x00, 0x00, 0x00, 0x07, 0x01, 0xAA] = .ok (.cmd24 7) [0xAA] ∧
      decode .request8 [0xFF] = .ok (.invalidKind80 0xFF) [] ∧ decode .state8 [0x45, 0x00] = .ok .stateWBusy [0x00] := by
  decide

theorem witness_Crc7Properties : ([0x40, 0x01] : List Byte).length = ([0x95, 0x02] : List Byte).length := rfl

theorem witness_NewCardCapacityWrapsOnlyAtTheTop :
    (csdStructure csdSdhc = 1 ∧ csdSizeV2 csdSdhc ≠ 0x3FFFFF) ∧
      csdStructure #v[0x40, 0, 0, 0, 0, 0, 0, 0x3F, 0xFF, 0xFF, 0, 0, 0, 0, 0, 0, 0, 0] = 1 ∧
      csdSizeV2 #v[0x40, 0, 0, 0, 0, 0, 0, 0x3F, 0xFF, 0xFF, 0, 0, 0, 0, 0, 0, 0, 0] = 0x3FFFFF := by decide +kernel

theorem witness_ExchangesAreRecorded : (carded 4 [0x01]).card = 0xFF :: (List.replicate 7 0xFF ++ [0x01]) := rfl

theorem witness_CommandSendsItsFrame :
    formatOf (.cmd17 5) = .frame48 ∧ Instr.cmd17 5 ≠ .acmd41 ∧ Instr.cmd17 5 ≠ .acmd41Hcs := by decide

/-- Both clauses: a prefix answered 0x05, and one answered 0x01. -/
theorem witness_AcmdPrefixShortCircuits :
    Answers .cmd55 (carded 4 [0x05]) (after .cmd55 (carded 4 [0x05])) 0x05 ∧ (0x05 : Byte) > 1 ∧
      Answers .cmd55 (carded 4 [0x01]) (after .cmd55 (carded 4 [0x01])) 0x01 ∧ (0x01 : Byte) ≤ 1 :=
  ⟨⟨rfl, by decide +kernel⟩, by decide, ⟨rfl, by decide +kernel⟩, by decide⟩

theorem witness_CommandsTouchOnlyTheBus : formatOf .acmd41 = .frame48 ∧ formatOf .cmd0 = .frame48 := by decide

/-- Both clauses: an idle server with a request, and a busy one. -/
theorem witness_StepRunsTheDecodedInstruction :
    (nextEvent (asking 2 0 0 1 base) = .tick ∧ (asking 2 0 0 1 base).srv = .idle ∧
        decode .request8 [(asking 2 0 0 1 base).record.kind] = .ok .reqRead []) ∧
      nextEvent (busyAt .write 0x45 []) = .tick ∧ (busyAt .write 0x45 []).srv = .busy ∧
      (busyAt .write 0x45 []).live ≠ .none ∧ decode .state8 [(busyAt .write 0x45 []).fsm] = .ok .stateWBusy [] ∧
      liveOf (busyAt .write 0x45 []).fsm = (busyAt .write 0x45 []).live := by decide

/-- The server idle, busy and in the sink. -/
theorem witness_StateNoneRunsTheServer :
    base.srv = .idle ∧ (busyAt .read 0x00 []).srv = .busy ∧ ({ base with srv := .fatal } : State).srv = .fatal := by decide

theorem witness_IdleTick : base.srv = .idle ∧ base.record.kind = 0 ∧ nextEvent base = .tick := by decide

/-- A state for each line of the validation and each acceptance: the server idle in all. -/
theorem witness_RequestTakenUp :
    (base.srv = .idle ∧ mounted.srv = .idle ∧ (asking 2 1 0 1 base).srv = .idle) ∧ (3 : Byte) < 4 ∧
      (asking 2 1 0 1 base).record.device ≠ 0 ∧
      (asking 3 0 0x00ECE000 0 mounted).dev.lastSector < (asking 3 0 0x00ECE000 0 mounted).record.sector ∧
      (asking 2 0 0 0 mounted).record.count = 0 ∧ (asking 2 0 0 1 base).dev.mounted = false ∧
      (¬ (asking 2 0 0x00ECDFFF 1 mounted).dev.lastSector < (asking 2 0 0x00ECDFFF 1 mounted).record.sector ∧
        (asking 2 0 0x00ECDFFF 1 mounted).dev.mounted = true) := by decide

theorem witness_InvalidKindsPostParerr :
    base.srv = .idle ∧ wellFormed (.invalidKind04 0x04) = true ∧ wellFormed (.invalidKind08 0x0F) = true ∧
      wellFormed (.invalidKind10 0x1F) = true ∧ wellFormed (.invalidKind20 0x20) = true ∧
      wellFormed (.invalidKind40 0x7F) = true ∧ wellFormed (.invalidKind80 0x80) = true := by decide

theorem witness_BusyServerRunsOnlyItsFsm :
    (busyAt .read 0x32 []).srv = .busy ∧ fetch (busyAt .read 0x32 []) = some .stateRData := by decide

/-- Both ends: a micro-step that goes on, and one that completes. -/
theorem witness_MicroStepGoesOnOrCompletes :
    isMicroStep .stateWBusy ∧
      exec .stateWBusy (busyAt .write 0x45 [0x00]) = .next (after .stateWBusy (busyAt .write 0x45 [0x00])) ∧
      exec .stateWBusy (busyAt .write 0x45 [0xFF]) = .next (after .stateWBusy (busyAt .write 0x45 [0xFF])) :=
  ⟨⟨rfl, by decide⟩, rfl, rfl⟩

/-- Both clauses: a next state, and a fault. -/
theorem witness_RunningRequestIgnoresTheRecord :
    isMicroStep .stateWData ∧
      exec .stateWData (busyAt .write 0x42 [0x00]) = .next (after .stateWData (busyAt .write 0x42 [0x00])) ∧
      exec .stateWData (noDma (busyAt .write 0x42 [])) = .fault (.dmaRefused 0) := ⟨⟨rfl, by decide⟩, rfl, rfl⟩

/-- In the sink: a tick, and another agent's step. -/
theorem witness_SinkIgnoresTicks :
    ({ base with srv := .fatal } : State).srv = .fatal ∧ nextEvent { base with srv := .fatal } = .tick ∧
      nextEvent (upon .expire { base with srv := .fatal }) ≠ .reset ∧
      step (upon .expire { base with srv := .fatal }) = .next { base with srv := .fatal } :=
  ⟨rfl, rfl, by decide, rfl⟩

/-- A code of no FSM, a code of another FSM, and no FSM live. -/
theorem witness_UndefinedStateEntersTheSink :
    (busyAt .read 0x23 []).srv = .busy ∧ liveOf (busyAt .read 0x23 []).fsm ≠ (busyAt .read 0x23 []).live ∧
      liveOf (busyAt .read 0x45 []).fsm ≠ (busyAt .read 0x45 []).live ∧ (busyAt .none 0x00 []).live = .none ∧
      nextEvent (busyAt .read 0x23 []) = .tick := by decide

/-- The first and the last offset. -/
theorem witness_HostReadsTheRegisterMap :
    nextEvent (upon (.hostRead 0x40000000 4) base) = .hostRead (base.params.regBase + BitVec.ofNat 32 0x00) 4 ∧
      nextEvent (upon (.hostRead 0x4000003C 4) base) = .hostRead (base.params.regBase + BitVec.ofNat 32 0x3C) 4 ∧
      0x3C < 0x40 ∧ 0x3C % 4 = 0 := by decide

theorem witness_HostWritesTheRequestFields :
    nextEvent (upon (.hostWrite 0x40000014 4 7) base) = .hostWrite (base.params.regBase + BitVec.ofNat 32 0x14) 4 7 ∧
      nextEvent (upon (.hostWrite 0x40000018 4 7) base) = .hostWrite (base.params.regBase + BitVec.ofNat 32 0x18) 4 7 ∧
      0x18 < 0x40 ∧ 0x18 % 4 = 0 := by decide

/-- A narrow access and a misaligned one inside the block; one just past it. -/
theorem witness_OtherHostAccessesAreRefused :
    (nextEvent (upon (.hostRead 0x40000000 2) base) = .hostRead 0x40000000 2 ∧
        ((0x40000000 : Addr) - base.params.regBase).toNat < 0x40) ∧
      (nextEvent (upon (.hostWrite 0x4000003F 4 0) base) = .hostWrite 0x4000003F 4 0 ∧
        ((0x4000003F : Addr) - base.params.regBase).toNat < 0x40 ∧
        ((0x4000003F : Addr) - base.params.regBase).toNat % 4 ≠ 0) ∧
      0x40 ≤ ((0x40000040 : Addr) - base.params.regBase).toNat := by decide

/-- A running timer, a stopped one, a store. -/
theorem witness_TimeAndMemorySteps :
    (nextEvent (upon .expire { base with phase := .running }) = .expire ∧
        (upon .expire { base with phase := .running }).phase = .running) ∧
      (upon .expire base).phase ≠ .running ∧
      nextEvent (upon (.memWrite 0xFFFFFFFF 0x5A) base) = .memWrite 0xFFFFFFFF 0x5A ∧
      memWf (upon (.memWrite 0xFFFFFFFF 0x5A) base).mem = true := by decide

theorem witness_ResetInput : nextEvent (upon .reset (reading 0 512 300 0x55)) = .reset := rfl

/-- The first and the last echo byte. -/
theorem witness_EchoBytesAreCollected :
    (busyAt .init 0x16 []).ctx.echoIdx < 4 ∧
      ({ busyAt .init 0x16 [] with ctx := { State.reset.ctx with echoIdx := 3 } } : State).ctx.echoIdx < 4 := by decide

/-- The command's tick, the first OCR byte's and the last one's. -/
theorem witness_OperatingConditionAndOcr :
    (busyAt .init 0x19 []).ctx.ocrIdx = 0 ∧
      (1 ≤ ({ State.reset.ctx with ocrIdx := 1 } : Context).ocrIdx ∧
        ({ State.reset.ctx with ocrIdx := 1 } : Context).ocrIdx ≤ 4) ∧
      1 ≤ ({ State.reset.ctx with ocrIdx := 4 } : Context).ocrIdx ∧
      ({ State.reset.ctx with ocrIdx := 4 } : Context).ocrIdx ≤ 4 := by decide

theorem witness_LegacyBranch :
    ({ State.reset.ctx with pollCmd := 0xA9 } : Context).pollCmd = 0xA9 ∧
      ({ State.reset.ctx with pollCmd := 0x01 } : Context).pollCmd = 0x01 := by decide

/-- The first and the last CSD byte. -/
theorem witness_CsdBytesAreCollected :
    (busyAt .init 0x21 []).ctx.csdIdx < 18 ∧ ({ State.reset.ctx with csdIdx := 17 } : Context).csdIdx < 18 ∧
      (busyAt .init 0x21 []).ctx.csdIdx ≠ 17 := by decide

/-- A restart left, and none. -/
theorem witness_ProtocolErrorProcedure :
    base.ctx.retry ≤ base.params.initRetries ∧
      ({ State.reset.ctx with retry := 2 } : Context).retry ≤ base.params.initRetries := by decide

/-- In the window at its ends and out of it; a data byte, a trailer byte, the last byte. -/
theorem witness_ReadStreamByte :
    ((reading 510 4 510 0).ctx.idx < 514 ∧ memWf (reading 510 4 510 0).mem = true ∧
        InWindow (reading 510 4 510 0).ctx (reading 510 4 510 0).ctx.idx.toNat ∧
        dmaAdmits (reading 510 4 510 0) (readAddr (reading 510 4 510 0).ctx) = true) ∧
      ((reading 510 4 513 0).ctx.idx < 514 ∧ (reading 510 4 513 0).ctx.idx = 513 ∧
        InWindow (reading 510 4 513 0).ctx (reading 510 4 513 0).ctx.idx.toNat ∧
        dmaAdmits (reading 510 4 513 0) (readAddr (reading 510 4 513 0).ctx) = true) ∧
      (reading 510 4 509 0).ctx.idx < 514 ∧
      ¬ InWindow (reading 510 4 509 0).ctx (reading 510 4 509 0).ctx.idx.toNat := by
  unfold InWindow; decide

/-- The first and the last byte of ECE560's example window. -/
theorem witness_ReadAddressFormula :
    InWindow (reading 100 50 100 0).ctx (reading 100 50 100 0).ctx.idx.toNat ∧
      InWindow (reading 100 50 149 0).ctx (reading 100 50 149 0).ctx.idx.toNat := by
  unfold InWindow; decide

/-- An address refused, inside the window and in a write. -/
theorem witness_RefusedDmaFaults :
    (InWindow (noDma (reading 0 1 0 0)).ctx (noDma (reading 0 1 0 0)).ctx.idx.toNat ∧
        dmaAdmits (noDma (reading 0 1 0 0)) (readAddr (noDma (reading 0 1 0 0)).ctx) = false) ∧
      (nextEvent (noDma (reading 0 1 0 0)) = .tick ∧ (noDma (reading 0 1 0 0)).srv = .busy ∧
        (noDma (reading 0 1 0 0)).live = .read ∧ (noDma (reading 0 1 0 0)).fsm = 0x32) ∧
      dmaAdmits (noDma (busyAt .write 0x42 [])) (writeAddr (noDma (busyAt .write 0x42 [])).ctx) = false ∧
      (busyAt .write 0x42 []).live = .write := by
  unfold InWindow; decide

/-- A whole block waiting at the card, the window of V-RD-6 and of ECE560's example. -/
def streaming (offset count : BitVec 16) : State :=
  { reading offset count 0 0 with card := List.replicate 512 0x23 ++ 0x30 :: 0xDB :: [] }

theorem admits_all (s : State) (h : s.params = params) (a : Addr) : dmaAdmits s a = true := by
  unfold dmaAdmits; rw [h]; simp [params]; exact a.isLt

theorem witness_ReadStreamCopiesTheWindow (offset count : BitVec 16) :
    let s := streaming offset count
    s.outside = .script [] ∧ s.srv = .busy ∧ s.live = .read ∧ s.fsm = 0x32 ∧ s.ctx.idx = 0 ∧ s.ctx.crcCalc = 0 ∧
      memWf s.mem = true ∧ s.params.crc16Enforce = false ∧ (List.replicate 512 (0x23 : Byte)).length = 512 ∧
      s.card = List.replicate 512 0x23 ++ 0x30 :: 0xDB :: [] ∧
      ∀ k, s.ctx.snapOffset.toNat + k < 514 → k < s.ctx.snapCount.toNat →
        dmaAdmits s (s.ctx.snapBuf + BitVec.ofNat 32 k) = true :=
  ⟨rfl, rfl, rfl, rfl, rfl, rfl, rfl, rfl, List.length_replicate, rfl, fun _ _ _ => admits_all _ rfl _⟩

theorem witness_WriteDataByte :
    dmaAdmits (busyAt .write 0x42 []) (writeAddr (busyAt .write 0x42 []).ctx) = true ∧
      dmaAdmits (noDma (busyAt .write 0x42 [])) (writeAddr (noDma (busyAt .write 0x42 [])).ctx) = false := by decide

theorem witness_WriteStreamSendsTheBuffer :
    let s := busyAt .write 0x42 []
    s.outside = .script [] ∧ s.srv = .busy ∧ s.live = .write ∧ s.fsm = 0x42 ∧ s.ctx.idx = 0 ∧
      ∀ k, k < 512 → dmaAdmits s (s.ctx.snapBuf + BitVec.ofNat 32 k) = true :=
  ⟨rfl, rfl, rfl, rfl, rfl, fun _ _ => admits_all _ rfl _⟩

theorem base_control : ControlInv base := by unfold ControlInv; decide

theorem witness_StepKeepsTheControlPoint : ControlInv base ∧ step base = .next base := ⟨base_control, rfl⟩

/-- A busy state, and the idle state after it. -/
theorem witness_StepKeepsTheControlPoint_busy :
    ControlInv (busyAt .write 0x45 [0xFF]) ∧ step (busyAt .write 0x45 [0xFF]) = .next (stepped (busyAt .write 0x45 [0xFF])) := by
  refine ⟨?_, rfl⟩; unfold ControlInv; decide

theorem witness_StepKeepsMemoryCanonical :
    memWf (upon (.memWrite 5 0x5A) { base with mem := [(5, 1)] }).mem = true ∧
      step (upon (.memWrite 5 0x5A) { base with mem := [(5, 1)] }) =
        .next (stepped (upon (.memWrite 5 0x5A) { base with mem := [(5, 1)] })) := ⟨rfl, rfl⟩

theorem busy_inv : Inv (busyAt .read 0x32 [0x55]) where
  memory := rfl
  control := by unfold ControlInv; decide
  status := by unfold StatusInv; decide
  index := by unfold IndexInv; decide
  released := by unfold ReleasedInv; decide
  cardType := by unfold CardTypeInv isDetectedType; decide
  code := by unfold CodeInv; decide
  retry := by unfold RetryInv; decide

theorem witness_StepKeepsEveryInvariant :
    Inv (busyAt .read 0x32 [0x55]) ∧ step (busyAt .read 0x32 [0x55]) = .next (stepped (busyAt .read 0x32 [0x55])) :=
  ⟨busy_inv, rfl⟩

/-- A micro-step that counts a read, one that counts a write, one that counts nothing. -/
theorem witness_DescriptorWriters :
    (exec .stateRData (reading 0 1 513 0) = .next (after .stateRData (reading 0 1 513 0)) ∧
        (after .stateRData (reading 0 1 513 0)).dev.rdCount = 1) ∧
      (exec .stateWBusy (busyAt .write 0x45 [0xFF]) = .next (after .stateWBusy (busyAt .write 0x45 [0xFF])) ∧
        (after .stateWBusy (busyAt .write 0x45 [0xFF])).dev.wrCount = 1) ∧
      exec .stateWCrc (busyAt .write 0x43 []) = .next (after .stateWCrc (busyAt .write 0x43 [])) :=
  ⟨⟨rfl, by decide +kernel⟩, ⟨rfl, by decide +kernel⟩, rfl⟩

/-- R_DATA in its window, and an instruction that stores nothing. -/
theorem witness_OnlyReadDataStores :
    (exec .stateRData (reading 0 1 0 0x23) = .next (after .stateRData (reading 0 1 0 0x23)) ∧
        InWindow (reading 0 1 0 0x23).ctx (reading 0 1 0 0x23).ctx.idx.toNat ∧
        (0x1001 : Nat) ≠ (readAddr (reading 0 1 0 0x23).ctx).toNat) ∧
      exec .stateWCrc (busyAt .write 0x43 []) = .next (after .stateWCrc (busyAt .write 0x43 [])) :=
  ⟨⟨rfl, by unfold InWindow; decide, by decide⟩, rfl⟩

theorem witness_SpeedAndDiagnosticWriters :
    exec .stateIEnter (busyAt .init 0x10 []) = .next (after .stateIEnter (busyAt .init 0x10 [])) ∧
      exec .stateIFinCommit (busyAt .init 0x22 []) = .next (after .stateIFinCommit (busyAt .init 0x22 [])) ∧
      exec .stateWCrc (busyAt .write 0x43 []) = .next (after .stateWCrc (busyAt .write 0x43 [])) := ⟨rfl, rfl, rfl⟩

/-- A tick that exchanges a byte, and a step of another agent. -/
theorem witness_HistoryGrowsAndParametersStay :
    step (busyAt .write 0x43 []) = .next (stepped (busyAt .write 0x43 [])) ∧
      step (upon .reset base) = .next (stepped (upon .reset base)) ∧ nextEvent (upon .reset base) ≠ .tick :=
  ⟨rfl, rfl, by decide⟩

theorem witness_SnapshotIsKept :
    isMicroStep .stateWCrc ∧ exec .stateWCrc (busyAt .write 0x43 []) = .next (after .stateWCrc (busyAt .write 0x43 [])) :=
  ⟨⟨rfl, by decide⟩, rfl⟩

end Sys2Proof.Tests
end

section
/-! Scope (spec/00_scope.md): what TIME and MEM's other users do, and what every step does to the bus history and the
parameters. -/

namespace Sys2Proof.Machine

/-! ## TIME and MEM's other users -/

/-- Settles O27: a running timer expires and any other stays; a store is `memWrite`, read back by the laws of memory. -/
theorem timeAndMemorySteps : Obligations.TimeAndMemorySteps := by
  intro s
  refine ⟨fun he hr => ?running, fun he hr => ?notRunning, fun a v he hwf => ?store⟩
  case running =>
    obtain ⟨-, h⟩ | ⟨hn, -⟩ := expirePhase_cases (takeEvent s)
    · rw [step_event s he, perform, h]
    · exact absurd (by simpa using hr) hn
  case notRunning =>
    obtain ⟨hr', -⟩ | ⟨-, h⟩ := expirePhase_cases (takeEvent s)
    · exact absurd (by simpa using hr') hr
    · rw [step_event s he, perform, h]
  case store =>
    refine ⟨dmaWrite a v (takeEvent s), step_event s he, rfl, ?_, fun a' ha => ?_⟩
    · rw [dmaWrite_mem, takeEvent_mem, memRead_write_self hwf]
    · rw [dmaWrite_mem, takeEvent_mem, memRead_write_other _ _ ha]

/-! ## The bus history and the parameters -/

/-- From `s` to `t` the parameters stay (R7) and the bus history is extended at its end (R41). -/
def BusGrows (s t : State) : Prop := t.params = s.params ∧ s.bus <+: t.bus

namespace BusGrows

variable {s t u : State}

theorem refl (s : State) : BusGrows s s := ⟨rfl, List.prefix_refl _⟩

theorem trans (h : BusGrows s t) (h' : BusGrows t u) : BusGrows s u := ⟨h'.1.trans h.1, h.2.trans h'.2⟩

theorem of_eq (hp : t.params = s.params) (hb : t.bus = s.bus) : BusGrows s t := ⟨hp, hb ▸ List.prefix_refl _⟩

/-- Both branches of a rule's test. -/
theorem ite {p : Prop} [Decidable p] (h : BusGrows s t) (h' : BusGrows s u) : BusGrows s (if p then t else u) := by
  split
  · exact h
  · exact h'

/-! The shared operations: the history still extends that of `s` when one of them runs at `t`. `goto`, `arm` and the
other updates of one field keep both fields, so there `h` is the proof. -/

theorem xchg (h : BusGrows s t) (b : Byte) : BusGrows s (xchg b t).2 := h.trans ⟨rfl, List.prefix_append _ _⟩

theorem send (h : BusGrows s t) (b : Byte) : BusGrows s (send b t) := h.xchg b

theorem release (h : BusGrows s t) : BusGrows s (release t) := h.trans ⟨rfl, List.prefix_append _ _⟩

theorem sendAll (h : BusGrows s t) (l : List Byte) : BusGrows s (sendAll l t) := by
  obtain ⟨_, -, hb, -, -⟩ := sendAll_spec l t
  exact h.trans ⟨sendAll_params l t, hb ▸ List.prefix_append _ _⟩

theorem sendCommand (h : BusGrows s t) (c : Byte) (a : BitVec 32) : BusGrows s (sendCommand c a t).2 := by
  obtain ⟨-, -, -, _, hb⟩ := sendCommand_spec c a t
  exact h.trans ⟨sendCommand_params c a t, hb ▸ List.prefix_append _ _⟩

theorem goto (h : BusGrows s t) {c : Byte} : BusGrows s (goto c t) := h

theorem deselect (h : BusGrows s t) : BusGrows s (deselect t) := h

theorem arm (h : BusGrows s t) {d : Duration} : BusGrows s (arm d t) := h

theorem complete (h : BusGrows s t) {c : BitVec 3} : BusGrows s (complete c t) := h

theorem withCtx (h : BusGrows s t) {c : Context} : BusGrows s { t with ctx := c } := h

theorem zeroSectors (h : BusGrows s t) : BusGrows s (zeroSectors t) := h.release

theorem finishWrite (h : BusGrows s t) {c : BitVec 3} : BusGrows s (finishWrite c t) := h.release

theorem protocolError (h : BusGrows s t) : BusGrows s (protocolError t) := .ite h.withCtx.goto h.release.complete

theorem copyByte (h : BusGrows s t) (b : Byte) : BusGrows s (copyByte b t) := by
  rw [copyByte_eq]; exact h

theorem completeRead (h : BusGrows s t) : BusGrows s (completeRead t) := by
  obtain ⟨_, -, e⟩ := completeRead_cases t
  rw [e]; exact h.release

end BusGrows

/-! Every step, from the instruction outwards. -/

theorem takeUp_busGrows (k : Byte) (s : State) : BusGrows s (takeUp k s) := by
  obtain ⟨-, c, -, h⟩ | ⟨-, -, h⟩ | ⟨-, h⟩ := takeUp_cases s k <;> rw [h] <;> exact .of_eq rfl rfl

theorem execStateNone_busGrows {s t : State} (h : execStateNone s = .next t) : BusGrows s t := by
  unfold execStateNone at h
  split at h
  · split at h <;> cases h
    · exact .refl s
    · exact takeUp_busGrows _ s
  · cases h; exact .of_eq rfl rfl
  · cases h; exact .refl s

/-- One case per instruction: a card command is a `call`, a received byte is `byte`, and each proof has the shape of its
rule's branches. -/
theorem exec_busGrows {i : Instr} {s t : State} (h : exec i s = .next t) : BusGrows s t := by
  have start := BusGrows.refl s
  have call {c : Byte} {a : BitVec 32} : BusGrows s (sendCommand c a s).2 := start.sendCommand c a
  have byte := start.xchg FILL
  cases i with
  | reqNone => cases h; exact start
  | reqInit | reqRead | reqWrite => cases h; exact takeUp_busGrows _ s
  | invalidKind04 | invalidKind08 | invalidKind10 | invalidKind20 | invalidKind40 | invalidKind80 =>
    cases h; exact takeUp_busGrows _ s
  | cmd0 | cmd1 | cmd8 | cmd9 | cmd16 | cmd17 | cmd24 | cmd55 | cmd58 | cmd59 | acmd41Hcs | acmd41 =>
    cases h; exact call
  | stateNone => exact execStateNone_busGrows h
  | stateIEnter | stateIFinCommit => cases h; exact .of_eq rfl rfl
  | stateIBusReset => cases h; exact (start.deselect.sendAll _).arm.goto
  | stateIWaitPower => cases h; exact .ite start.arm.goto start
  | stateISendReset => cases h; exact .ite call.goto (.ite call.protocolError call)
  | stateICheckVersion => cases h; exact .ite call.goto call.goto
  | stateISendIfCond | stateIClassify => cases h; exact start.withCtx.goto
  | stateICollectEcho => cases h; exact .ite byte.withCtx.goto byte.withCtx
  | stateIValidateEcho => cases h; exact .ite start.arm.goto start.goto
  | stateIPollOpCond => cases h; exact .ite call.withCtx.goto (.ite call.protocolError call)
  | stateIReadOcr =>
    cases h
    exact .ite (.ite call.protocolError call.withCtx) (.ite byte.withCtx.goto byte.withCtx)
  | stateISelectLegacy => cases h; exact (BusGrows.ite call.withCtx call.withCtx).arm.goto
  | stateIPollLegacy => cases h; exact .ite call.goto (.ite call.protocolError call)
  | stateIDisableCrc => cases h; exact call.goto
  | stateISetBlklen => cases h; exact .ite call.protocolError call.goto
  | stateIFinCsdCmd => cases h; exact .ite call.zeroSectors call.arm.goto
  | stateIFinCsdToken => cases h; exact .ite byte.withCtx.goto (.ite byte byte.zeroSectors)
  | stateIFinCsdData => cases h; exact .ite byte.withCtx.release.withCtx.goto byte.withCtx
  | stateRSend => cases h; exact .ite call.release.complete call.arm.goto
  | stateRToken => cases h; exact .ite byte.withCtx.goto (.ite byte byte.release.complete)
  | stateRData =>
    rw [exec, execStateRData] at h
    split at h <;> cases h
    exact .ite (byte.copyByte _).withCtx.completeRead (byte.copyByte _).withCtx
  | stateWSend => cases h; exact .ite call.release.complete call.goto
  | stateWToken => cases h; exact (start.send _).withCtx.goto
  | stateWData =>
    rw [exec, execStateWData] at h
    split at h <;> cases h
    exact .ite (start.send _).withCtx.goto (start.send _).withCtx
  | stateWCrc => cases h; exact .ite (start.send _).withCtx.goto (start.send _).withCtx
  | stateWDresp => cases h; exact .ite byte.arm.goto byte.release.complete
  | stateWBusy => cases h; exact .ite byte.finishWrite (.ite byte.finishWrite byte)

theorem tick_busGrows {s t : State} (h : tick s = .next t) : BusGrows s t := by
  obtain ⟨i, -, e⟩ | ⟨-, -, e⟩ | ⟨-, -, e⟩ := tick_cases s <;> rw [e] at h
  · exact exec_busGrows h
  · cases h; exact .of_eq rfl rfl
  · cases h; exact .refl s

/-- Only a pulse of `tick` exchanges a byte (R41): any other agent's step keeps the bus history and the parameters. -/
theorem perform_keeps_bus {e : Event} {s t : State} (he : e ≠ .tick) (h : perform e s = .next t) :
    t.params = s.params ∧ t.bus = s.bus := by
  cases e with
  | tick => exact absurd rfl he
  | hostRead addr size => obtain ⟨-, -, rfl⟩ := hostReadStep_next s h; exact ⟨rfl, rfl⟩
  | hostWrite addr size w => obtain ⟨-, -, rfl⟩ := hostWriteStep_next s h; exact ⟨rfl, rfl⟩
  | expire =>
    cases h
    obtain ⟨-, e⟩ | ⟨-, e⟩ := expirePhase_cases s <;> rw [e] <;> exact ⟨rfl, rfl⟩
  | memWrite addr v => cases h; exact ⟨rfl, rfl⟩
  | reset => cases h; exact ⟨rfl, rfl⟩

theorem step_busGrows {s t : State} (h : step s = .next t) : BusGrows s t := by
  have taken : BusGrows s (takeEvent s) := .of_eq (takeEvent_params s) (takeEvent_bus s)
  by_cases he : nextEvent s = .tick
  · rw [step_tick s he] at h
    exact taken.trans (tick_busGrows h)
  · obtain ⟨hp, hb⟩ := perform_keeps_bus he h
    exact taken.trans (.of_eq hp hb)

/-- Settles O58: `BusGrows` holds of every step, and only a tick makes an exchange. -/
theorem historyGrowsAndParametersStay : Obligations.HistoryGrowsAndParametersStay := by
  intro s t h
  obtain ⟨hp, more, hb⟩ := step_busGrows h
  refine ⟨hp, ⟨more, hb.symm⟩, fun he => ?_⟩
  obtain ⟨-, hb'⟩ := perform_keeps_bus he h
  rw [hb', takeEvent_bus]

end Sys2Proof.Machine
end

section
/-! One exchange (R41) and the release (R127). -/

namespace Sys2Proof.Machine

/-- Settles O9: `exchanged` and `released` are `xchg` and `release`, and the scripted answer is the head of the script. -/
theorem exchangesAreRecorded : Obligations.ExchangesAreRecorded := by
  intro out s
  refine ⟨rfl, rfl, fun b rest h => ?_, rfl⟩
  rw [cardAnswer, h]

end Sys2Proof.Machine
end

section
/-! What a micro-step can do, said once: `Move`. The invariants of the control point and of the running request, and the
frames of the micro-steps, are read off it. -/

namespace Sys2Proof.Machine

open Claims

/-! ## The fields a micro-step keeps until it completes -/

/-- The snapshot part of the FSM context (R31). -/
def snapOf (c : Context) : Byte × Addr × BitVec 32 × BitVec 16 × BitVec 16 :=
  (c.snapDev, c.snapBuf, c.snapSector, c.snapOffset, c.snapCount)

@[simp] theorem snapOf_takeCrc (b : Byte) (c : Context) : snapOf (takeCrc b c) = snapOf c := by rw [takeCrc_eq]; rfl

@[simp] theorem takeCrc_retry (b : Byte) (c : Context) : (takeCrc b c).retry = c.retry := by rw [takeCrc_eq]

@[simp] theorem copyByte_ctx (b : Byte) (s : State) : (copyByte b s).ctx = s.ctx := by rw [copyByte_eq]

@[simp] theorem copyByte_fsm (b : Byte) (s : State) : (copyByte b s).fsm = s.fsm := by rw [copyByte_eq]

/-- From `s` to `t` a request has only been worked on: the server, the registers, the speed line, the parameters and the
snapshot stay, memory stays canonical and the restart count within its bound. -/
structure Runs (s t : State) : Prop where
  srv : t.srv = s.srv
  live : t.live = s.live
  record : t.record = s.record
  dev : t.dev = s.dev
  diag : t.diag = s.diag
  hs : t.hs = s.hs
  params : t.params = s.params
  snapshot : snapOf t.ctx = snapOf s.ctx
  memory : memWf s.mem = true → memWf t.mem = true
  retry : s.ctx.retry ≤ s.params.initRetries → t.ctx.retry ≤ s.params.initRetries

namespace Runs

variable {s t u : State}

theorem refl (s : State) : Runs s s := ⟨rfl, rfl, rfl, rfl, rfl, rfl, rfl, rfl, id, id⟩

/-- A bus operation: its `_withBus` law says that it changes the bus side only. -/
theorem bus (r : Runs s t) (h : u = withBus t u) : Runs s u := by
  rw [h]; exact { r with }

theorem xchg (r : Runs s t) (b : Byte) : Runs s (xchg b t).2 := r.bus (xchg_withBus b t)

theorem send (r : Runs s t) (b : Byte) : Runs s (send b t) := r.bus (send_withBus b t)

theorem release (r : Runs s t) : Runs s (release t) := r.bus (release_withBus t)

theorem deselect (r : Runs s t) : Runs s (deselect t) := r.bus (deselect_withBus t)

theorem sendAll (r : Runs s t) (l : List Byte) : Runs s (sendAll l t) := r.bus (sendAll_withBus l t)

theorem sendCommand (r : Runs s t) (c : Byte) (a : BitVec 32) : Runs s (sendCommand c a t).2 :=
  r.bus (sendCommand_spec c a t).1

theorem arm (r : Runs s t) {d : Duration} : Runs s (arm d t) := { r with }

theorem goto (r : Runs s t) {c : Byte} : Runs s (goto c t) := { r with }

/-- A change of the context beside the snapshot and the restart count. -/
theorem withCtx (r : Runs s t) {c : Context} (hsnap : snapOf c = snapOf t.ctx := by rfl)
    (hretry : c.retry = t.ctx.retry := by rfl) : Runs s { t with ctx := c } :=
  { r with snapshot := hsnap.trans r.snapshot, retry := fun h => hretry ▸ r.retry h }

theorem copyByte (r : Runs s t) (b : Byte) : Runs s (copyByte b t) := by
  obtain ⟨-, h⟩ | ⟨-, h⟩ := copyByte_cases b t <;> rw [h]
  · exact { r with memory := fun hm => memWrite_wf _ _ _ (r.memory hm) }
  · exact r

end Runs

/-! ## What a state of an FSM needs -/

/-- What the state of code `c` needs of the select line and of the context: its counter's range (R30), the card deselected
at the commit (R222), and from the classification on the card's type (R96, R212, R215). A code that needs nothing of a
field has that field by default. -/
structure Needs (c : Byte) (cs : Bool) (x : Context) : Prop where
  echo : c = Fsm.iCollectEcho → x.echoIdx < 4 := by exact fun h => absurd h (by decide)
  ocr : c = Fsm.iReadOcr → x.ocrIdx < 5 := by exact fun h => absurd h (by decide)
  csd : c = Fsm.iFinCsdData → x.csdIdx < 18 := by exact fun h => absurd h (by decide)
  readData : c = Fsm.rData → x.idx < 514 := by exact fun h => absurd h (by decide)
  writeData : c = Fsm.wData → x.idx < 512 := by exact fun h => absurd h (by decide)
  writeCrc : c = Fsm.wCrc → x.idx < 2 := by exact fun h => absurd h (by decide)
  commit : c = Fsm.iFinCommit → cs = false := by exact fun h => absurd h (by decide)
  pendType : Fsm.iPollLegacy ≤ c ∧ c ≤ Fsm.iFinCommit → isDetectedType x.pendType := by
    exact fun h => absurd h (by decide)
  pollCmd : c = Fsm.iPollLegacy → x.pollCmd = Cmd.acmd41 ∨ x.pollCmd = Cmd.cmd1 := by
    exact fun h => absurd h (by decide)

/-- Only the commit looks at the select line. -/
theorem Needs.anyCs {c : Byte} {cs cs' : Bool} {x : Context} (n : Needs c cs x) (hc : c ≠ Fsm.iFinCommit) :
    Needs c cs' x :=
  { n with commit := fun h => absurd h hc }

/-- The card's type stays known from state to state. -/
theorem Needs.typeKept {c : Byte} {cs : Bool} {x x' : Context} (n : Needs c cs x)
    (hx : x'.pendType = x.pendType := by rfl)
    (hc : Fsm.iPollLegacy ≤ c ∧ c ≤ Fsm.iFinCommit := by decide) : isDetectedType x'.pendType :=
  hx ▸ n.pendType hc

/-- A counter below its bound is below it after the next byte too, if that byte was not the last. -/
theorem count_lt {w : Nat} {a n : BitVec w} (h : a < n) (hne : a + 1 ≠ n) : a + 1 < n := by
  have hn := n.isLt
  rw [BitVec.lt_def] at h ⊢
  have hne' : (a + 1).toNat ≠ n.toNat := fun e => hne (BitVec.eq_of_toNat_eq e)
  have h1 : (a + 1).toNat ≤ a.toNat + 1 := by
    rw [BitVec.toNat_add]
    exact (Nat.mod_le _ _).trans (Nat.add_le_add_left (Nat.mod_le _ _) _)
  omega

/-! ## The moves -/

/-- The code of a state's instruction (R97). -/
def codeOf (i : Instr) : Byte := (encode i).headD 0

/-- What the micro-step of the instruction `i` can do at `s`: Enter; go to a state of the same FSM; stay; complete, with or
without counting a read or a write; commit. -/
inductive Move (i : Instr) (s : State) : State → Prop
  | enter (hi : i = .stateIEnter) :
      Move i s (goto Fsm.iBusReset (setHs false { s with ctx := { s.ctx with retry := 0 } }))
  | goto {u : State} {c : Byte} (r : Runs s u)
      (needs : Needs (codeOf i) s.cs s.ctx → Needs c u.cs u.ctx := by exact fun _ => {})
      (fsm : liveOf c = liveOf (codeOf i) := by rfl) (past : codeOf i ≠ Fsm.iEnter := by decide) : Move i s (goto c u)
  | stay {t : State} (r : Runs s t) (fsm : t.fsm = s.fsm)
      (needs : Needs (codeOf i) s.cs s.ctx → Needs (codeOf i) t.cs t.ctx)
      (past : codeOf i ≠ Fsm.iEnter := by decide) : Move i s t
  | complete {u : State} {c : BitVec 3} (r : Runs s u) (cs : u.cs = false := by rfl) (code : c ≤ 5 := by decide) :
      Move i s (complete c u)
  | countRead {u : State} {c : BitVec 3} (hi : i = .stateRData) (r : Runs s u) (cs : u.cs = false) (code : c ≤ 5)
      (d : Diag) :
      Move i s (Machine.complete c { u with dev := { u.dev with rdCount := u.dev.rdCount + 1 }, diag := d })
  | countWrite {u : State} {c : BitVec 3} (hi : i = .stateWBusy) (r : Runs s u) (cs : u.cs = false) (code : c ≤ 5) :
      Move i s (Machine.complete c { u with dev := { u.dev with wrCount := u.dev.wrCount + 1 } })
  | commit (hi : i = .stateIFinCommit) :
      Move i s
        (Machine.complete Code.ok
          (setHs true
            { s with
              dev :=
                { cardType := s.ctx.pendType, mounted := true, lastSector := s.ctx.sectorCount - 1, rdCount := 0,
                  wrCount := 0 } }))

namespace Move

variable {i : Instr} {s t u : State}

/-- Both branches of a rule's test. -/
theorem ite {p : Prop} [Decidable p] (h : p → Move i s t) (h' : ¬ p → Move i s u) : Move i s (if p then t else u) := by
  split
  · exact h ‹_›
  · exact h' ‹_›

/-- A wait: the context stays too. -/
theorem wait (r : Runs s t) (hf : t.fsm = s.fsm) (hx : t.ctx = s.ctx) (past : codeOf i ≠ Fsm.iEnter := by decide)
    (hc : codeOf i ≠ Fsm.iFinCommit := by decide) : Move i s t :=
  .stay r hf (fun n => hx ▸ n.anyCs hc) past

/-- The protocol-error procedure (R230), in a state of the initialization past Enter. -/
theorem protocolError (r : Runs s t) (fsm : liveOf Fsm.iBusReset = liveOf (codeOf i) := by rfl)
    (past : codeOf i ≠ Fsm.iEnter := by decide) : Move i s (protocolError t) := by
  obtain ⟨hlt, h⟩ | ⟨-, h⟩ := protocolError_cases t <;> rw [h]
  · have hlt' : t.ctx.retry < s.params.initRetries := r.params ▸ hlt
    exact .goto (u := { t with ctx := { t.ctx with retry := t.ctx.retry + 1 } })
      { r with retry := fun _ => by bv_omega } (fun _ => {}) fsm past
  · exact .complete r.release

/-- The failure exit of the CSD's command and token (R219, R220). -/
theorem zeroSectors (r : Runs s t) (hx : t.ctx.pendType = s.ctx.pendType)
    (fsm : liveOf Fsm.iFinCommit = liveOf (codeOf i) := by rfl)
    (past : codeOf i ≠ Fsm.iEnter := by decide)
    (hc : Fsm.iPollLegacy ≤ codeOf i ∧ codeOf i ≤ Fsm.iFinCommit := by decide) : Move i s (zeroSectors t) :=
  .goto r.withCtx.release
    (fun n => { commit := fun _ => rfl, pendType := fun _ => n.typeKept hx hc }) fsm past

theorem completeRead (hi : i = .stateRData) (r : Runs s t) : Move i s (completeRead t) := by
  obtain ⟨c, hc, h⟩ := completeRead_cases t
  rw [h]
  exact .countRead hi r.release rfl (by rcases hc with rfl | rfl <;> decide) _

end Move

/-- One case per state: `call` is a card command, `byte` a received byte, and each proof has the shape of its rule's
branches. -/
theorem exec_move {i : Instr} {s t : State} (hi : isMicroStep i) (h : exec i s = .next t) : Move i s t := by
  have start := Runs.refl s
  have byte := start.xchg FILL
  have call {c : Byte} {a : BitVec 32} : Runs s (sendCommand c a s).2 := start.sendCommand c a
  have ctx {c : Byte} {a : BitVec 32} : (sendCommand c a s).2.ctx = s.ctx := sendCommand_ctx c a s
  have fsm {c : Byte} {a : BitVec 32} : (sendCommand c a s).2.fsm = s.fsm := sendCommand_fsm c a s
  have type {c : Byte} {a : BitVec 32} : (sendCommand c a s).2.ctx.pendType = s.ctx.pendType :=
    congrArg Context.pendType ctx
  cases i with
  | stateIEnter => cases h; exact .enter rfl
  | stateIBusReset => cases h; exact .goto (start.deselect.sendAll _).arm
  | stateIWaitPower => cases h; exact .ite (fun _ => .goto start.arm) fun _ => .wait start rfl rfl
  | stateISendReset =>
    cases h
    exact .ite (fun _ => .goto call) fun _ => .ite (fun _ => .protocolError call) fun _ => .wait call fsm ctx
  | stateICheckVersion => cases h; exact .ite (fun _ => .goto call) fun _ => .goto call
  | stateISendIfCond => cases h; exact .goto start.withCtx fun _ => { echo := fun _ => by simp }
  | stateICollectEcho =>
    cases h
    exact .ite (fun _ => .goto byte.withCtx) fun hne =>
      .stay byte.withCtx rfl fun n => { echo := fun _ => count_lt (n.echo rfl) hne }
  | stateIValidateEcho => cases h; exact .ite (fun _ => .goto start.arm) fun _ => .goto start
  | stateIPollOpCond =>
    cases h
    exact .ite (fun _ => .goto call.withCtx fun _ => { ocr := fun _ => by simp })
      fun _ => .ite (fun _ => .protocolError call) fun _ => .wait call fsm ctx
  | stateIReadOcr =>
    cases h
    exact .ite
      (fun _ => .ite (fun _ => .protocolError call)
        fun _ => .stay call.withCtx fsm fun _ => { ocr := fun _ => by simp })
      fun _ => .ite (fun _ => .goto byte.withCtx)
        fun hne => .stay byte.withCtx rfl fun n =>
          { ocr := fun _ => count_lt (n.ocr rfl) hne }
  | stateIClassify =>
    cases h
    exact .goto start.withCtx fun _ => { pendType := fun _ => by unfold isDetectedType; simp }
  | stateISelectLegacy =>
    cases h
    dsimp only
    split
    · exact .goto call.withCtx.arm fun _ => { pendType := fun _ => .inr (.inl rfl), pollCmd := fun _ => .inl rfl }
    · exact .goto call.withCtx.arm fun _ => { pendType := fun _ => .inl rfl, pollCmd := fun _ => .inr rfl }
  | stateIPollLegacy =>
    cases h
    exact .ite (fun _ => .goto call fun n => { pendType := fun _ => n.typeKept type })
      fun _ => .ite (fun _ => .protocolError call) fun _ => .wait call fsm ctx
  | stateIDisableCrc => cases h; exact .goto call fun n => { pendType := fun _ => n.typeKept type }
  | stateISetBlklen =>
    cases h
    exact .ite (fun _ => .protocolError call) fun _ => .goto call fun n => { pendType := fun _ => n.typeKept type }
  | stateIFinCsdCmd =>
    cases h
    exact .ite (fun _ => .zeroSectors call type)
      fun _ => .goto call.arm fun n => { pendType := fun _ => n.typeKept type }
  | stateIFinCsdToken =>
    cases h
    exact .ite (fun _ => .goto byte.withCtx fun n => { csd := fun _ => by simp, pendType := fun _ => n.typeKept })
      fun _ => .ite (fun _ => .wait byte rfl rfl) fun _ => .zeroSectors byte rfl
  | stateIFinCsdData =>
    cases h
    exact .ite
      (fun _ => .goto byte.withCtx.release.withCtx fun n => { commit := fun _ => rfl, pendType := fun _ => n.typeKept })
      fun hne => .stay byte.withCtx rfl fun n =>
        { csd := fun _ => count_lt (n.csd rfl) hne
          pendType := fun _ => n.typeKept }
  | stateIFinCommit => cases h; exact .commit rfl
  | stateRSend => cases h; exact .ite (fun _ => .complete call.release) fun _ => .goto call.arm
  | stateRToken =>
    cases h
    exact .ite (fun _ => .goto byte.withCtx fun _ => { readData := fun _ => by simp })
      fun _ => .ite (fun _ => .wait byte rfl rfl) fun _ => .complete byte.release
  | stateRData =>
    rw [exec, execStateRData] at h
    split at h <;> cases h
    have copied := (byte.copyByte (xchg FILL s).1).withCtx
      (c := { takeCrc (xchg FILL s).1 (copyByte (xchg FILL s).1 (xchg FILL s).2).ctx with
        idx := (copyByte (xchg FILL s).1 (xchg FILL s).2).ctx.idx + 1 }) (snapOf_takeCrc _ _) (takeCrc_retry _ _)
    exact .ite (fun _ => .completeRead rfl copied) fun hne =>
      .stay copied (copyByte_fsm _ _) fun n =>
        { readData := fun _ => count_lt (by rw [copyByte_ctx]; exact n.readData rfl) hne }
  | stateWSend => cases h; exact .ite (fun _ => .complete call.release) fun _ => .goto call
  | stateWToken => cases h; exact .goto (start.send _).withCtx fun _ => { writeData := fun _ => by simp }
  | stateWData =>
    rw [exec, execStateWData] at h
    split at h <;> cases h
    exact .ite (fun _ => .goto (start.send _).withCtx fun _ => { writeCrc := fun _ => by simp })
      fun hne => .stay (start.send _).withCtx rfl fun n =>
        { writeData := fun _ => count_lt (n.writeData rfl) hne }
  | stateWCrc =>
    cases h
    exact .ite (fun _ => .goto (start.send _).withCtx)
      fun hne => .stay (start.send _).withCtx rfl fun n =>
        { writeCrc := fun _ => count_lt (n.writeCrc rfl) hne }
  | stateWDresp => cases h; exact .ite (fun _ => .goto byte.arm) fun _ => .complete byte.release
  | stateWBusy =>
    cases h
    exact .ite (fun _ => .countWrite rfl byte.release rfl (by decide))
      fun _ => .ite (fun _ => .countWrite rfl byte.release rfl (by decide)) fun _ => .wait byte rfl rfl
  | stateNone => exact absurd rfl hi.2
  | reqNone | reqInit | reqRead | reqWrite => exact nomatch hi.1
  | invalidKind04 | invalidKind08 | invalidKind10 | invalidKind20 | invalidKind40 | invalidKind80 => exact nomatch hi.1
  | cmd0 | cmd1 | cmd8 | cmd9 | cmd16 | cmd17 | cmd24 | cmd55 | cmd58 | cmd59 | acmd41Hcs | acmd41 => exact nomatch hi.1

end Sys2Proof.Machine
end

section
/-! Reset's values (R47), and the invariants of every step (R22 to R31, R95, R230): at a tick from `Move` and the take-up
of a request, at any other agent's step because the block's own state stays. -/

namespace Sys2Proof.Machine

open Claims

/-! ## The control point -/

/-- A code that belongs to a live FSM is one of that FSM's states. -/
theorem lookupState_isSome {c : Byte} {l : Live} (h : liveOf c = l) (hl : l ≠ .none) :
    (lookupState (liveRows l) c).isSome := by
  unfold liveOf at h
  split at h
  · subst h; assumption
  split at h
  · subst h; assumption
  split at h
  · subst h; assumption
  · exact absurd h.symm hl

/-- A server busy in a state of its live FSM meets the control point's invariants. -/
theorem controlInv_of_busy {s : State} (hsrv : s.srv = .busy) (hlive : s.live ≠ .none) (hfsm : liveOf s.fsm = s.live) :
    ControlInv s :=
  ⟨by simp [hsrv, hlive], by simp [hsrv, hlive], fun h => absurd h hlive, fun _ => lookupState_isSome hfsm hlive⟩

/-- An idle server with no FSM live meets them. -/
theorem controlInv_of_idle {s : State} (hsrv : s.srv = .idle) (hlive : s.live = .none) (hfsm : s.fsm = 0x00) :
    ControlInv s :=
  ⟨by simp [hsrv, hlive], by simp [hsrv, hlive], fun _ => hfsm, fun h => absurd hlive h⟩

/-- The control point's invariants leave two cases: idle with no FSM live, or busy in the state of a micro-step. -/
theorem controlInv_cases {s : State} (h : ControlInv s) :
    (s.srv = .idle ∧ s.live = .none ∧ s.fsm = 0x00) ∨
      (s.srv = .busy ∧ s.live ≠ .none ∧ ∃ i, fetch s = some i ∧ isMicroStep i ∧ codeOf i = s.fsm ∧ liveOf s.fsm = s.live) := by
  obtain ⟨hidle, hbusy, hfsm, hrow⟩ := h
  by_cases hl : s.live = .none
  · exact .inl ⟨hidle.2 hl, hl, hfsm hl⟩
  · obtain ⟨i, hi⟩ := Option.isSome_iff_exists.1 (hrow hl)
    obtain ⟨hformat, hne, henc, hof⟩ := liveRows_spec s.live hi
    have hb := hbusy.2 hl
    exact .inr ⟨hb, hl, i, by rw [fetch, hb]; exact hi, ⟨hformat, hne⟩, by rw [codeOf, henc]; rfl, hof⟩

/-! ## The other agents' steps -/

/-- From `s` to `t` the block's own state stays, but for the record's request fields and its code, the timer, and memory,
which stay in bounds. -/
structure SameBlock (s t : State) : Prop where
  srv : t.srv = s.srv
  live : t.live = s.live
  fsm : t.fsm = s.fsm
  dev : t.dev = s.dev
  ctx : t.ctx = s.ctx
  cs : t.cs = s.cs
  params : t.params = s.params
  statusBusy : t.record.statusBusy = s.record.statusBusy
  statusFatal : t.record.statusFatal = s.record.statusFatal
  error : s.record.error ≤ 5 → t.record.error ≤ 5
  memory : memWf s.mem = true → memWf t.mem = true

namespace SameBlock

variable {s t : State}

theorem refl (s : State) : SameBlock s s := ⟨rfl, rfl, rfl, rfl, rfl, rfl, rfl, rfl, rfl, id, id⟩

theorem control (e : SameBlock s t) (h : ControlInv s) : ControlInv t := by
  unfold ControlInv fetchState at h ⊢
  rwa [e.srv, e.live, e.fsm]

theorem inv (e : SameBlock s t) (h : Inv s) : Inv t where
  memory := e.memory h.memory
  control := e.control h.control
  status := by have := h.status; unfold StatusInv at *; rwa [e.statusBusy, e.statusFatal, e.srv]
  index := by have := h.index; unfold IndexInv at *; rwa [e.fsm, e.ctx]
  released := by have := h.released; unfold ReleasedInv at *; rwa [e.live, e.fsm, e.cs]
  cardType := by have := h.cardType; unfold CardTypeInv at *; rwa [e.fsm, e.ctx, e.dev]
  code := e.error h.code
  retry := by have := h.retry; unfold RetryInv at *; rwa [e.live, e.fsm, e.ctx, e.params]

/-- Validation answers a code that R95 lists. -/
theorem validate_le {k : Byte} {c : BitVec 3} (h : validate k s = some c) : c ≤ 5 := by
  rcases validate_code s h with rfl | rfl <;> decide

/-- A request that validation answers (R299). -/
theorem post {k : Byte} {c : BitVec 3} (h : validate k s = some c) : SameBlock s (post c s) :=
  { refl s with error := fun _ => validate_le h }

theorem takeEvent (s : State) : SameBlock s (takeEvent s) := by
  rw [takeEvent_eq]; exact { refl s with }

/-- Any agent's step but a tick and reset. -/
theorem perform {e : Event} (htick : e ≠ .tick) (hreset : e ≠ .reset) (h : perform e s = .next t) : SameBlock s t := by
  cases e with
  | tick => exact absurd rfl htick
  | reset => exact absurd rfl hreset
  | hostRead addr size => obtain ⟨-, -, rfl⟩ := hostReadStep_next s h; exact { refl s with }
  | hostWrite addr size w =>
    obtain ⟨-, -, rfl⟩ := hostWriteStep_next s h
    obtain ⟨hb, hf, he⟩ := storeField_status (hostReg addr s) w s.record
    exact { refl s with statusBusy := hb, statusFatal := hf, error := fun h => he.symm ▸ h }
  | expire => cases h; obtain ⟨-, e⟩ | ⟨-, e⟩ := expirePhase_cases s <;> rw [e] <;> exact { refl s with }
  | memWrite addr v => cases h; exact { refl s with memory := memWrite_wf _ _ _ }

end SameBlock

/-! ## A tick -/

/-- The idle server's tick: the request in `KIND`, if there is one, is answered or accepted (R290, R291). -/
theorem tick_idle {s t : State} (hs : s.srv = .idle) (h : tick s = .next t) :
    SameBlock s t ∨ t = accept s.record.kind s := by
  rw [tick, fetch, hs] at h
  by_cases hk : s.record.kind = 0
  · rw [hk] at h; cases h; exact .inl (.refl s)
  · dsimp only at h
    rw [exec_request s hk] at h
    cases h
    obtain ⟨-, c, hc, e⟩ | ⟨-, -, e⟩ | ⟨hn, -⟩ := takeUp_cases s s.record.kind
    · exact .inl (e ▸ .post hc)
    · exact .inr e
    · exact absurd hs hn

/-- A request enters its FSM at one of three states (R294). -/
theorem entry_cases (k : Byte) :
    (entryLive k = .init ∧ entryState k = Fsm.iEnter) ∨ (entryLive k = .read ∧ entryState k = Fsm.rSend) ∨
      (entryLive k = .write ∧ entryState k = Fsm.wSend) := by
  unfold entryLive entryState
  split
  · exact .inl ⟨rfl, rfl⟩
  split
  · exact .inr (.inl ⟨rfl, rfl⟩)
  · exact .inr (.inr ⟨rfl, rfl⟩)

theorem accept_control (k : Byte) (s : State) : ControlInv (accept k s) := by
  obtain ⟨hl, hf⟩ | ⟨hl, hf⟩ | ⟨hl, hf⟩ := entry_cases k <;>
    exact controlInv_of_busy rfl (by rw [accept_live, hl]; decide) (by rw [accept_live, accept_fsm, hl, hf]; rfl)

/-- What a micro-step leaves of the control point (R295, R296): the server idle, or busy in a state of the same FSM. -/
theorem Move.control {i : Instr} {s t : State} (m : Move i s t) (hb : s.srv = .busy) (hlive : s.live ≠ .none)
    (hi : codeOf i = s.fsm) (hof : liveOf s.fsm = s.live) : ControlInv t := by
  cases m with
  | enter h => exact controlInv_of_busy hb hlive (by rw [← hof, ← hi, h]; rfl)
  | goto r _ hc =>
    exact controlInv_of_busy (r.srv.trans hb) (fun e => hlive (r.live.symm.trans e)) (by
      rw [goto_fsm, goto_live, hc, hi, hof, r.live])
  | stay r hf =>
    exact controlInv_of_busy (r.srv.trans hb) (fun e => hlive (r.live.symm.trans e)) (by rw [hf, hof, r.live])
  | complete | countRead | countWrite | commit => exact controlInv_of_idle rfl rfl rfl

/-- Settles O51: an idle server stays idle or accepts, a micro-step stays in its FSM or completes, reset is idle, and no
other agent touches the control point. -/
theorem stepKeepsTheControlPoint : Obligations.StepKeepsTheControlPoint := by
  intro s t hs h
  have hs' := (SameBlock.takeEvent s).control hs
  unfold step at h
  by_cases htick : nextEvent s = .tick
  · rw [htick] at h
    obtain ⟨hi, -⟩ | ⟨hb, hlive, i, hf, hm, hc, hof⟩ := controlInv_cases hs'
    · obtain e | rfl := tick_idle hi h
      · exact e.control hs'
      · exact accept_control _ _
    · rw [perform, tick, hf] at h
      exact (exec_move hm h).control hb hlive hc hof
  by_cases hreset : nextEvent s = .reset
  · rw [hreset] at h; cases h; exact controlInv_of_idle rfl rfl rfl
  · exact (SameBlock.perform htick hreset h).control hs'

/-! ## All the invariants -/

/-- The invariants give each state what it needs. -/
theorem needs_of_inv {s : State} (h : Inv s) : Needs s.fsm s.cs s.ctx := by
  obtain ⟨hecho, hocr, hcsd, hread, hwrite, hcrc⟩ := h.index
  obtain ⟨htype, hpoll, -⟩ := h.cardType
  exact ⟨hecho, fun hf => by have := hocr hf; bv_omega, hcsd, hread, hwrite, hcrc, fun hf => h.released (.inr hf), htype,
    hpoll⟩

/-- The parts of the invariant, the ones about single states taken from what the present state needs. -/
theorem inv_of_needs {t : State} (n : Needs t.fsm t.cs t.ctx) (memory : memWf t.mem = true) (control : ControlInv t)
    (status : StatusInv t) (released : t.live = .none → t.cs = false)
    (cardType : t.dev.mounted = true → isDetectedType t.dev.cardType) (code : CodeInv t) (retry : RetryInv t) :
    Inv t where
  index := ⟨n.echo, fun hf => by have := n.ocr hf; bv_omega, n.csd, n.readData, n.writeData, n.writeCrc⟩
  released := fun hr => hr.elim released n.commit
  cardType := ⟨n.pendType, n.pollCmd, cardType⟩
  memory := memory
  control := control
  status := status
  code := code
  retry := retry

/-- Outside the sink the status says so. -/
theorem not_statusFatal {s : State} (h : Inv s) (hs : s.srv ≠ .fatal) : s.record.statusFatal ≠ true := by
  obtain ⟨-, hfatal⟩ := h.status
  exact fun hf => hs (hfatal.1 hf)

/-- A mounted card's type is a detected card's. -/
theorem mounted_type {s : State} (h : Inv s) : s.dev.mounted = true → isDetectedType s.dev.cardType := by
  obtain ⟨-, -, htype⟩ := h.cardType
  exact htype

/-- Work on a request keeps the invariants, if it leads to a state of the same FSM that has what it needs. -/
theorem Runs.inv {s t : State} (r : Runs s t) (h : Inv s) (hb : s.srv = .busy) (hlive : s.live ≠ .none)
    (hof : liveOf t.fsm = s.live) (n : Needs t.fsm t.cs t.ctx)
    (hretry : s.live = .init → t.ctx.retry ≤ s.params.initRetries) : Inv t := by
  have hlive' : t.live ≠ .none := fun e => hlive (r.live.symm.trans e)
  refine inv_of_needs n (r.memory h.memory) (controlInv_of_busy (r.srv.trans hb) hlive' (hof.trans r.live.symm)) ?_
    (fun e => absurd e hlive') ?_ ?_ fun hl _ => r.params ▸ hretry (r.live.symm.trans hl)
  · rw [StatusInv, r.record, r.srv]; exact h.status
  · rw [r.dev]; exact mounted_type h
  · rw [CodeInv, r.record]; exact h.code

/-- A completion with the card deselected meets the invariants, if the descriptor's type is a detected card's (R296). -/
theorem complete_inv {u : State} {c : BitVec 3} (hmem : memWf u.mem = true) (hfatal : u.record.statusFatal ≠ true)
    (hcs : u.cs = false) (hcode : c ≤ 5) (htype : u.dev.mounted = true → isDetectedType u.dev.cardType) :
    Inv (complete c u) :=
  have n : Needs Fsm.noneLive u.cs u.ctx := {}
  inv_of_needs n hmem (controlInv_of_idle rfl rfl rfl) ⟨⟨nofun, nofun⟩, fun h => absurd h hfatal, nofun⟩
    (fun _ => hcs) htype hcode nofun

/-- A request that ran meets them when it completes. -/
theorem Runs.complete_inv {s u : State} (r : Runs s u) (h : Inv s) (hb : s.srv = .busy) {c : BitVec 3} (d : Diag)
    {dev : Device} (hm : dev.mounted = u.dev.mounted) (ht : dev.cardType = u.dev.cardType) (hcs : u.cs = false)
    (hcode : c ≤ 5) : Inv (complete c { u with dev := dev, diag := d }) := by
  refine Machine.complete_inv (r.memory h.memory) ?_ hcs hcode ?_
  · rw [r.record]; exact not_statusFatal h (by rw [hb]; decide)
  · rw [hm, ht, r.dev]; exact mounted_type h

/-- The idle server's acceptance (R294): the entry states need nothing. -/
theorem accept_inv {s : State} (k : Byte) (h : Inv s) (hi : s.srv = .idle) : Inv (accept k s) := by
  have hfatal := not_statusFatal h (by rw [hi]; decide)
  have htype := mounted_type h
  obtain ⟨hl, hf⟩ | ⟨hl, hf⟩ | ⟨hl, hf⟩ := entry_cases k <;>
    exact inv_of_needs (by rw [accept_fsm, hf]; exact {}) h.memory (accept_control k s)
      ⟨⟨fun _ => rfl, fun _ => rfl⟩, fun e => absurd e hfatal, nofun⟩ (fun e => by simp [hl] at e) htype h.code
      fun e hne => by simp [hl, hf] at e hne

/-- Reset's values meet the invariants: no FSM is live, nothing is mounted, every code is 0. -/
theorem resetBlock_inv {s : State} (h : memWf s.mem = true) : Inv (resetBlock s) :=
  have n : Needs Fsm.noneLive false State.reset.ctx := {}
  inv_of_needs n h (controlInv_of_idle rfl rfl rfl) ⟨⟨nofun, nofun⟩, nofun, nofun⟩ (fun _ => rfl) nofun
    (Nat.zero_le _) nofun

/-- What a micro-step leaves meets all the invariants. -/
theorem Move.inv {i : Instr} {s t : State} (m : Move i s t) (h : Inv s) (hb : s.srv = .busy) (hlive : s.live ≠ .none)
    (hi : codeOf i = s.fsm) (hof : liveOf s.fsm = s.live) : Inv t := by
  have n := needs_of_inv h
  rw [← hi] at n
  have retry {u : State} (r : Runs s u) (past : codeOf i ≠ Fsm.iEnter) (hl : s.live = .init) :
      u.ctx.retry ≤ s.params.initRetries := r.retry (h.retry hl (hi ▸ past))
  cases m with
  | enter he =>
    subst he
    have slow : SameBlock s (setHs false s) := { SameBlock.refl s with }
    have needs {cs : Bool} {x : Context} : Needs Fsm.iBusReset cs x := {}
    have r : Runs (setHs false s) (Machine.goto Fsm.iBusReset (setHs false { s with ctx := { s.ctx with retry := 0 } })) :=
      { Runs.refl (setHs false s) with retry := fun _ => Nat.zero_le _ }
    exact r.inv (slow.inv h) hb hlive (hof ▸ hi ▸ rfl) needs fun _ => Nat.zero_le _
  | goto r needs hc past =>
    exact r.goto.inv h hb hlive (by rw [goto_fsm, hc, hi, hof]) (needs n) (retry r.goto past)
  | stay r hf needs past =>
    exact r.inv h hb hlive (by rw [hf, hof]) (by rw [hf, ← hi]; exact needs n) (retry r past)
  | complete r hcs hc => exact r.complete_inv h hb _ rfl rfl hcs hc
  | countRead _ r hcs hc d => exact r.complete_inv h hb d rfl rfl hcs hc
  | countWrite _ r hcs hc => exact r.complete_inv h hb _ rfl rfl hcs hc
  | commit hc =>
    subst hc
    have hfatal := not_statusFatal h (by rw [hb]; decide)
    exact complete_inv h.memory hfatal (n.commit rfl) (by decide) fun _ => n.typeKept

/-- Settles O53, in the cases of O51: at a tick by `Move.inv` and `accept_inv`, at reset by its values, and any other step
keeps the block's own state. -/
theorem stepKeepsEveryInvariant : Obligations.StepKeepsEveryInvariant := by
  intro s t hs h
  have hs' := (SameBlock.takeEvent s).inv hs
  unfold step at h
  by_cases htick : nextEvent s = .tick
  · rw [htick] at h
    obtain ⟨hi, -⟩ | ⟨hb, hlive, i, hf, hm, hc, hof⟩ := controlInv_cases hs'.control
    · obtain e | rfl := tick_idle hi h
      · exact e.inv hs'
      · exact accept_inv _ hs' hi
    · rw [perform, tick, hf] at h
      exact (exec_move hm h).inv hs' hb hlive hc hof
  by_cases hreset : nextEvent s = .reset
  · rw [hreset] at h; cases h; exact resetBlock_inv hs'.memory
  · exact (SameBlock.perform htick hreset h).inv hs'

/-- Settles O54: reset's state is what reset makes of it. -/
theorem resetMeetsTheInvariants : Obligations.ResetMeetsTheInvariants := resetBlock_inv (s := State.reset) reset_memWf

/-- Settles O28, value by value. -/
theorem resetValues : Obligations.ResetValues := by
  unfold Obligations.ResetValues AtReset
  decide

end Sys2Proof.Machine
end

section
/-! Who writes which field, over all instructions: a micro-step by `Move`, any other instruction because it is a card
command, a take-up or the server's own tick. -/

namespace Sys2Proof.Machine

open Claims

/-- Settles O59: every move keeps the snapshot. -/
theorem snapshotIsKept : Obligations.SnapshotIsKept := by
  intro i s t hi h
  have key : snapOf t.ctx = snapOf s.ctx := by
    cases exec_move hi h with
    | enter | commit => rfl
    | goto r | stay r | complete r | countRead _ r | countWrite _ r => exact r.snapshot
  simpa [snapOf] using key

/-- An instruction that is no micro-step writes neither the descriptor nor the diagnostic registers nor the speed. -/
theorem exec_other_keeps {i : Instr} {s t : State} (hi : ¬ isMicroStep i) (h : exec i s = .next t) :
    t.dev = s.dev ∧ t.diag = s.diag ∧ t.hs = s.hs := by
  have takeUp (k : Byte) : (takeUp k s).dev = s.dev ∧ (takeUp k s).diag = s.diag ∧ (takeUp k s).hs = s.hs := by
    obtain ⟨-, c, -, e⟩ | ⟨-, -, e⟩ | ⟨-, e⟩ := takeUp_cases s k <;> rw [e] <;> exact ⟨rfl, rfl, rfl⟩
  have call {c : Byte} {a : BitVec 32} : (sendCommand c a s).2.dev = s.dev ∧ (sendCommand c a s).2.diag = s.diag ∧
      (sendCommand c a s).2.hs = s.hs := ⟨sendCommand_dev c a s, sendCommand_diag c a s, sendCommand_hs c a s⟩
  cases i with
  | reqNone => cases h; exact ⟨rfl, rfl, rfl⟩
  | reqInit | reqRead | reqWrite => cases h; exact takeUp _
  | invalidKind04 | invalidKind08 | invalidKind10 | invalidKind20 | invalidKind40 | invalidKind80 =>
    cases h; exact takeUp _
  | cmd0 | cmd1 | cmd8 | cmd9 | cmd16 | cmd17 | cmd24 | cmd55 | cmd58 | cmd59 | acmd41Hcs | acmd41 =>
    cases h; exact call
  | stateNone =>
    rw [exec, execStateNone] at h
    split at h
    · split at h <;> cases h
      · exact ⟨rfl, rfl, rfl⟩
      · exact takeUp _
    all_goals cases h; exact ⟨rfl, rfl, rfl⟩
  | _ => exact absurd ⟨rfl, nofun⟩ hi

/-- Settles O55: of the moves only the commit, the read's count and the write's count write the descriptor. -/
theorem descriptorWriters : Obligations.DescriptorWriters := by
  intro i s t h hne
  by_cases hi : isMicroStep i
  case neg =>
    obtain ⟨hdev, -, -⟩ := exec_other_keeps hi h
    simp [hdev]
  cases exec_move hi h with
  | enter => simp
  | goto r | stay r | complete r => simp [r.dev]
  | countRead he r => simp [he, r.dev]
  | countWrite he r => simp [he, r.dev]
  | commit he => exact absurd he hne

/-- Settles O57: of the moves only Enter and the commit set the speed, only the read's count writes the diagnostic
registers. -/
theorem speedAndDiagnosticWriters : Obligations.SpeedAndDiagnosticWriters := by
  intro i s t h
  refine ⟨fun henter hcommit => ?speed, fun he => ?enter, fun hc => ?commit, ?diag⟩
  case speed =>
    by_cases hi : isMicroStep i
    case neg => obtain ⟨-, -, hhs⟩ := exec_other_keeps hi h; exact hhs
    cases exec_move hi h with
    | enter he => exact absurd he henter
    | goto r | stay r | complete r | countRead _ r | countWrite _ r => exact r.hs
    | commit hc => exact absurd hc hcommit
  case enter => subst he; cases h; rfl
  case commit => subst hc; cases h; rfl
  case diag =>
    by_cases hi : isMicroStep i
    case neg => obtain ⟨-, hdiag, -⟩ := exec_other_keeps hi h; exact .inl hdiag
    cases exec_move hi h with
    | enter | commit => exact .inl rfl
    | goto r | stay r | complete r | countWrite _ r => exact .inl r.diag
    | countRead he r => exact .inr ⟨he, rfl⟩

end Sys2Proof.Machine
end

section
/-! A host read (R35, R310): each register's word has the register map's fields at their bit positions. -/

namespace Sys2Proof.Machine

open Claims

variable (s : State)

theorem statusWord_toNat :
    (statusWord s).toNat =
      s.record.statusBusy.toNat + 2 * (decide (s.record.kind ≠ 0)).toNat + 4 * s.record.statusFatal.toNat := by
  refine (append_toNat _ _).trans ?_
  simp only [append_toNat, ofBool_toNat, BitVec.ofNat_eq_ofNat, BitVec.toNat_zero, pending]
  omega

theorem devstatWord_toNat : (devstatWord s).toNat = s.dev.mounted.toNat + 2 ^ 8 * s.dev.cardType.toNat := by
  refine (append_toNat _ _).trans ?_
  simp only [append_toNat, ofBool_toNat, BitVec.ofNat_eq_ofNat, BitVec.toNat_zero]
  omega

theorem rdCrcWord_toNat : (rdCrcWord s).toNat = s.diag.rdCrcRecv.toNat + 2 ^ 16 * s.diag.rdCrcCalc.toNat := by
  refine (append_toNat _ _).trans ?_
  omega

theorem diagWord_toNat :
    (diagWord s).toNat =
      s.diag.crcMismatch.toNat + 2 * s.cs.toNat + 4 * s.hs.toNat + 2 ^ 8 * s.fsm.toNat + 2 ^ 16 * s.ctx.retry.toNat := by
  refine (append_toNat _ _).trans ?_
  simp only [append_toNat, ofBool_toNat, BitVec.ofNat_eq_ofNat, BitVec.toNat_zero]
  omega

/-- An offset inside the block is the one read back from its address, whatever `REG_BASE` is. -/
theorem hostOffset_add {offset : Nat} (h : offset < 0x40) :
    hostOffset (s.params.regBase + BitVec.ofNat 32 offset) s = offset := by
  unfold hostOffset
  rw [BitVec.add_comm, BitVec.add_sub_cancel, BitVec.toNat_ofNat]
  omega

/-- The word of the register at an aligned offset is R35's. -/
theorem hostWord_toNat {offset : Nat} (h : offset < 0x40) (ha : offset % 4 = 0) :
    (hostWord (hostRegAt (offset / 4)) s).toNat = registerWord offset s := by
  obtain ⟨index, rfl⟩ := Nat.dvd_of_mod_eq_zero ha
  have hi : index < 16 := by omega
  rw [Nat.mul_div_cancel_left index (by decide)]
  interval_cases index <;>
    simp [hostRegAt, hostWord, registerWord, statusWord_toNat, devstatWord_toNat, rdCrcWord_toNat, diagWord_toNat] <;> omega

/-- No register shows the schedule. -/
theorem hostWord_takeEvent (r : HostReg) : hostWord r (takeEvent s) = hostWord r s := by rw [takeEvent_eq]; rfl

/-- Settles O24: the address selects the register at its offset, whose word is R35's. -/
theorem hostReadsTheRegisterMap : Obligations.HostReadsTheRegisterMap := by
  intro s offset h ha he
  have hoff : hostOffset (s.params.regBase + BitVec.ofNat 32 offset) (takeEvent s) = offset := by
    rw [← takeEvent_params s]; exact hostOffset_add _ h
  have hword : hostWord (hostRegAt (offset / 4)) (takeEvent s) = BitVec.ofNat 32 (registerWord offset s) := by
    rw [hostWord_takeEvent, ← hostWord_toNat s h ha, BitVec.ofNat_toNat, BitVec.setWidth_eq]
  rw [step_event s he, perform, hostReadStep, inRegBlock, hostAligned, hostReg, hoff, hword]
  simp [h, ha]

end Sys2Proof.Machine
end

section
/-! A running request reads only its snapshot (R31, R312): every micro-step answers alike whatever the record's request
fields hold. -/

namespace Sys2Proof.Machine

open Claims

/-! ## The bus does not see the record -/

section

variable (s : State) (k d : Byte) (b sec : BitVec 32) (o n : BitVec 16)

theorem sendAll_withRequest (outs : List Byte) :
    sendAll outs (withRequest s k d b sec o n) = withRequest (sendAll outs s) k d b sec o n := by
  induction outs generalizing s with
  | nil => rfl
  | cons out rest ih => exact ih (send out s)

theorem xchg_withRequest (out : Byte) :
    xchg out (withRequest s k d b sec o n) = ((xchg out s).1, withRequest (xchg out s).2 k d b sec o n) := rfl

theorem pollResponse_withRequest (m : Nat) :
    pollResponse m (withRequest s k d b sec o n) =
      ((pollResponse m s).1, withRequest (pollResponse m s).2 k d b sec o n) := by
  induction m generalizing s with
  | zero => rfl
  | succ m ih =>
    rw [pollResponse, pollResponse, xchg_withRequest]
    dsimp only
    split
    · rfl
    · exact ih _

theorem pollBudget_withRequest :
    pollBudget (withRequest s k d b sec o n) = ((pollBudget s).1, withRequest (pollBudget s).2 k d b sec o n) := by
  have hp : (withRequest s k d b sec o n).polls = s.polls := rfl
  unfold pollBudget
  rw [hp]
  cases s.polls <;> rfl

theorem sendFrame_withRequest (c : BitVec 6) (a : BitVec 32) :
    sendFrame c a (withRequest s k d b sec o n) = ((sendFrame c a s).1, withRequest (sendFrame c a s).2 k d b sec o n) := by
  have hf : putFrame c a (withRequest s k d b sec o n) = withRequest (putFrame c a s) k d b sec o n :=
    sendAll_withRequest (selectCard s) k d b sec o n (frame c a)
  rw [sendFrame, hf, pollBudget_withRequest]
  exact pollResponse_withRequest ..

theorem sendCommand_withRequest (c : Byte) (a : BitVec 32) :
    sendCommand c a (withRequest s k d b sec o n) =
      ((sendCommand c a s).1, withRequest (sendCommand c a s).2 k d b sec o n) := by
  unfold sendCommand
  rw [sendFrame_withRequest, sendFrame_withRequest]
  dsimp only
  rw [sendFrame_withRequest]
  split
  · split <;> rfl
  · rfl

theorem copyByte_withRequest (v : Byte) :
    copyByte v (withRequest s k d b sec o n) = withRequest (copyByte v s) k d b sec o n := by
  have hx : (withRequest s k d b sec o n).ctx = s.ctx := rfl
  rw [copyByte, copyByte, hx]
  split <;> rfl

end

/-! ## Twins: the same state but for the request fields -/

section

variable (d : Byte) (b sec : BitVec 32) (o n : BitVec 16)

/-- `t'` is `t` with these request fields, and some kind: a completion clears it, so the two runs may agree on it again. -/
def Twin (t t' : State) : Prop := ∃ k, t' = withRequest t k d b sec o n

/-- The two runs end alike: at twins, or with the same fault. -/
def TwinResults (r r' : Result) : Prop :=
  match r with
  | .next t => ∃ t', r' = .next t' ∧ Twin d b sec o n t t'
  | .fault f => r' = .fault f
  | .refused f => r' = .refused f

end

variable {d : Byte} {b sec : BitVec 32} {o n : BitVec 16}

namespace TwinResults

theorem next {t t' : State} (h : Twin d b sec o n t t') : TwinResults d b sec o n (.next t) (.next t') := ⟨t', rfl, h⟩

/-- Both branches of the test for a refused address. -/
theorem ite {p : Prop} [Decidable p] {q r q' r' : Result} (h : TwinResults d b sec o n q q')
    (h' : TwinResults d b sec o n r r') : TwinResults d b sec o n (if p then q else r) (if p then q' else r') := by
  split
  · exact h
  · exact h'

end TwinResults

/-- Both branches of a rule's test, which reads no request field. -/
theorem Twin.ite {p : Prop} [Decidable p] {t u t' u' : State} (h : Twin d b sec o n t t') (h' : Twin d b sec o n u u') :
    Twin d b sec o n (if p then t else u) (if p then t' else u') := by
  split
  · exact h
  · exact h'

theorem Twin.goto {t t' : State} {c : Byte} (h : Twin d b sec o n t t') : Twin d b sec o n (goto c t) (goto c t') := by
  obtain ⟨k, rfl⟩ := h; exact ⟨k, rfl⟩

theorem Twin.arm {t t' : State} {w : Duration} (h : Twin d b sec o n t t') : Twin d b sec o n (arm w t) (arm w t') := by
  obtain ⟨k, rfl⟩ := h; exact ⟨k, rfl⟩

theorem twin_protocolError (k : Byte) (s : State) :
    Twin d b sec o n (protocolError s) (protocolError (withRequest s k d b sec o n)) :=
  .ite ⟨k, rfl⟩ ⟨0, rfl⟩

theorem twin_completeRead (k : Byte) (s : State) :
    Twin d b sec o n (completeRead s) (completeRead (withRequest s k d b sec o n)) :=
  .ite ⟨0, rfl⟩ ⟨0, rfl⟩

/-- One case per state; each proof has the shape of its rule's branches: the kind is kept where the request goes on and
cleared where it completes. -/
theorem exec_withRequest {i : Instr} (hi : isMicroStep i) (s : State) (k : Byte) :
    TwinResults d b sec o n (exec i s) (exec i (withRequest s k d b sec o n)) := by
  have call (c : Byte) (a : BitVec 32) := sendCommand_withRequest s k d b sec o n c a
  have pe (t : State) : Twin d b sec o n (protocolError t) (protocolError (withRequest t k d b sec o n)) :=
    twin_protocolError k t
  cases i with
  | stateIEnter | stateISendIfCond | stateIClassify | stateWToken => exact .next ⟨k, rfl⟩
  | stateIFinCommit => exact .next ⟨0, rfl⟩
  | stateIBusReset =>
    refine .next ⟨k, ?_⟩
    rw [show deselect (withRequest s k d b sec o n) = withRequest (deselect s) k d b sec o n from rfl, sendAll_withRequest]
    rfl
  | stateIWaitPower | stateIValidateEcho | stateICollectEcho | stateIFinCsdData | stateWCrc =>
    exact .next (.ite ⟨k, rfl⟩ ⟨k, rfl⟩)
  | stateISendReset =>
    simp only [exec, execStateISendReset, callCmd0, call]
    exact .next (.ite ⟨k, rfl⟩ (.ite (pe _) ⟨k, rfl⟩))
  | stateICheckVersion =>
    simp only [exec, execStateICheckVersion, callCmd8, call]
    exact .next (.ite ⟨k, rfl⟩ ⟨k, rfl⟩)
  | stateIPollOpCond =>
    simp only [exec, execStateIPollOpCond, callAcmd41Hcs, call]
    exact .next (.ite ⟨k, rfl⟩ (.ite (pe _) ⟨k, rfl⟩))
  | stateIReadOcr =>
    simp only [exec, execStateIReadOcr, callCmd58, call]
    exact .next (.ite (.ite (pe _) ⟨k, rfl⟩) (.ite ⟨k, rfl⟩ ⟨k, rfl⟩))
  | stateISelectLegacy =>
    simp only [exec, execStateISelectLegacy, callAcmd41, call]
    exact .next (Twin.ite ⟨k, rfl⟩ ⟨k, rfl⟩).arm.goto
  | stateIPollLegacy =>
    simp only [exec, execStateIPollLegacy, show (withRequest s k d b sec o n).ctx = s.ctx from rfl, call]
    exact .next (.ite ⟨k, rfl⟩ (.ite (pe _) ⟨k, rfl⟩))
  | stateIDisableCrc =>
    simp only [exec, execStateIDisableCrc, callCmd59, call]
    exact .next ⟨k, rfl⟩
  | stateISetBlklen =>
    simp only [exec, execStateISetBlklen, callCmd16, call]
    exact .next (.ite (pe _) ⟨k, rfl⟩)
  | stateIFinCsdCmd =>
    simp only [exec, execStateIFinCsdCmd, callCmd9, call]
    exact .next (.ite ⟨k, rfl⟩ ⟨k, rfl⟩)
  | stateIFinCsdToken => exact .next (.ite ⟨k, rfl⟩ (.ite ⟨k, rfl⟩ ⟨k, rfl⟩))
  | stateRSend =>
    simp only [exec, execStateRSend, callCmd17, show (withRequest s k d b sec o n).ctx = s.ctx from rfl, call]
    exact .next (.ite ⟨0, rfl⟩ ⟨k, rfl⟩)
  | stateRToken => exact .next (.ite ⟨k, rfl⟩ (.ite ⟨k, rfl⟩ ⟨0, rfl⟩))
  | stateRData =>
    simp only [exec, execStateRData, xchg_withRequest, copyByte_withRequest]
    generalize copyByte (xchg FILL s).1 (xchg FILL s).2 = v
    exact .ite rfl (.next (.ite (twin_completeRead k _) ⟨k, rfl⟩))
  | stateWSend =>
    simp only [exec, execStateWSend, callCmd24, show (withRequest s k d b sec o n).ctx = s.ctx from rfl, call]
    exact .next (.ite ⟨0, rfl⟩ ⟨k, rfl⟩)
  | stateWData => exact .ite rfl (.next (.ite ⟨k, rfl⟩ ⟨k, rfl⟩))
  | stateWDresp => exact .next (.ite ⟨k, rfl⟩ ⟨0, rfl⟩)
  | stateWBusy => exact .next (.ite ⟨0, rfl⟩ (.ite ⟨0, rfl⟩ ⟨k, rfl⟩))
  | stateNone => exact absurd rfl hi.2
  | reqNone | reqInit | reqRead | reqWrite => exact nomatch hi.1
  | invalidKind04 | invalidKind08 | invalidKind10 | invalidKind20 | invalidKind40 | invalidKind80 => exact nomatch hi.1
  | cmd0 | cmd1 | cmd8 | cmd9 | cmd16 | cmd17 | cmd24 | cmd55 | cmd58 | cmd59 | acmd41Hcs | acmd41 => exact nomatch hi.1

/-- Settles O21: the two runs end alike, at twins or with the same fault. -/
theorem runningRequestIgnoresTheRecord : Obligations.RunningRequestIgnoresTheRecord := by
  intro i s k d b sec o n hi
  have key : TwinResults d b sec o n (exec i s) (exec i (withRequest s k d b sec o n)) := exec_withRequest hi s k
  refine ⟨fun t h => ?_, fun f h => ?_⟩
  · rw [h] at key
    obtain ⟨t', ht', k', rfl⟩ := key
    exact ⟨_, ht', rfl, rfl, rfl, rfl, rfl, rfl⟩
  · rw [h] at key
    exact key

end Sys2Proof.Machine
end

section
/-! System memory (R60 to R67): host accesses that are not aligned 32-bit ones in the register block, where a DMA access
goes and when it faults, and what every instruction and every step does to memory. -/

namespace Sys2Proof.Machine

open Claims

/-! ## Host accesses that fault or are refused -/

/-- Whether an access reads or writes makes no difference where it is not performed: outside the block it is refused. -/
theorem hostStep_outside {s : State} {addr : Addr} (h : inRegBlock addr s = false) (size : Nat) (w : Word) :
    hostReadStep addr size s = .refused (.outsideBlock addr) ∧
      hostWriteStep addr size w s = .refused (.outsideBlock addr) :=
  ⟨if_pos h, if_pos h⟩

/-- In the block, an access that is not an aligned 32-bit one faults. -/
theorem hostStep_unaligned {s : State} {addr : Addr} {size : Nat} (h : inRegBlock addr s = true)
    (ha : hostAligned addr size s = false) (w : Word) :
    hostReadStep addr size s = .fault (.hostAccessRefused addr size) ∧
      hostWriteStep addr size w s = .fault (.hostAccessRefused addr size) := by
  have hin : ¬ inRegBlock addr s = false := by simp [h]
  exact ⟨(if_neg hin).trans (if_pos ha), (if_neg hin).trans (if_pos ha)⟩

/-- The schedule does not move the register block. -/
theorem hostOffset_takeEvent (addr : Addr) (s : State) : hostOffset addr (takeEvent s) = hostOffset addr s := by
  rw [hostOffset, takeEvent_params]; rfl

/-- The step of a host access answers what its read and its write both answer. -/
theorem step_hostAccess {s : State} {addr : Addr} {size : Nat} {w : Word} {r : Result}
    (he : nextEvent s = .hostRead addr size ∨ nextEvent s = .hostWrite addr size w)
    (hr : hostReadStep addr size (takeEvent s) = r ∧ hostWriteStep addr size w (takeEvent s) = r) : step s = r := by
  obtain ⟨hread, hwrite⟩ := hr
  obtain he | he := he
  · exact (step_event s he).trans hread
  · exact (step_event s he).trans hwrite

/-- Settles O26: the offset decides which of the two tests of a host access fails. -/
theorem otherHostAccessesAreRefused : Obligations.OtherHostAccessesAreRefused := by
  intro s addr size w he
  have hoff : hostOffset addr (takeEvent s) = (addr - s.params.regBase).toNat := hostOffset_takeEvent addr s
  refine ⟨fun hin ha => step_hostAccess he ?fault, fun hout => step_hostAccess he ?refused⟩
  case fault =>
    refine hostStep_unaligned ?_ ?_ w
    · simpa [inRegBlock, hoff] using hin
    · simpa [hostAligned, hoff] using ha
  case refused =>
    refine hostStep_outside ?_ size w
    simpa [inRegBlock, hoff] using hout

/-! ## The DMA addresses -/

/-- Settles O43: in the window the snapshot's offset is at most the index, so the exact difference is not below zero. -/
theorem readAddressFormula : Obligations.ReadAddressFormula := by
  intro c hw
  obtain ⟨hle, -⟩ := hw
  have hidx := c.idx.isLt
  have hoff := c.snapOffset.isLt
  simp only [readAddr, BitVec.toNat_sub, BitVec.toNat_add, BitVec.toNat_setWidth]
  omega

/-- The model's window test is the claims' window. -/
theorem inWindow_iff_InWindow (c : Context) : inWindow c = true ↔ InWindow c c.idx.toNat := inWindow_iff c

/-! ## Refused DMA accesses -/

/-- R_DATA faults exactly at a refused address in the window (R67). -/
theorem execStateRData_fault_iff (s : State) :
    exec .stateRData s = .fault (.dmaRefused (readAddr s.ctx)) ↔
      InWindow s.ctx s.ctx.idx.toNat ∧ dmaAdmits s (readAddr s.ctx) = false := by
  rw [exec, execStateRData, ← inWindow_iff_InWindow]
  split <;> simp [*]

/-- W_DATA faults exactly at a refused address (R67). -/
theorem execStateWData_fault_iff (s : State) :
    exec .stateWData s = .fault (.dmaRefused (writeAddr s.ctx)) ↔ dmaAdmits s (writeAddr s.ctx) = false := by
  rw [exec, execStateWData]
  split <;> simp [*]

/-- The schedule does not change the launch memory. -/
theorem dmaAdmits_takeEvent (s : State) (a : Addr) : dmaAdmits (takeEvent s) a = dmaAdmits s a := by
  rw [dmaAdmits, takeEvent_params]; rfl

/-- A busy server's tick runs the live FSM's state (R295). -/
theorem step_busy {s : State} {i : Instr} (he : nextEvent s = .tick) (hb : s.srv = .busy)
    (hi : lookupState (liveRows s.live) s.fsm = some i) : step s = exec i (takeEvent s) := by
  have hf : fetch (takeEvent s) = some i := by
    rw [fetch, takeEvent_srv, hb]
    simpa only [fetchState, takeEvent_live, takeEvent_fsm] using hi
  rw [step_tick s he, tick, hf]

/-- Settles O44: each rule's first test is the refusal, and the tick runs that rule. -/
theorem refusedDmaFaults : Obligations.RefusedDmaFaults := by
  intro s
  refine ⟨execStateRData_fault_iff s, execStateWData_fault_iff s, fun he hb hl hf hw hd => ?read,
    fun he hb hl hf hd => ?write⟩
  case read =>
    rw [step_busy (i := .stateRData) he hb (by rw [hl, hf]; rfl), ← takeEvent_ctx s]
    exact (execStateRData_fault_iff _).2 (by rw [takeEvent_ctx, dmaAdmits_takeEvent]; exact ⟨hw, hd⟩)
  case write =>
    rw [step_busy (i := .stateWData) he hb (by rw [hl, hf]; rfl), ← takeEvent_ctx s]
    exact (execStateWData_fault_iff _).2 (by rw [takeEvent_ctx, dmaAdmits_takeEvent]; exact hd)

/-! ## Who writes memory -/

/-- From `s` to `t` all of memory stays. -/
def SameMem (s t : State) : Prop := t.mem = s.mem

namespace SameMem

variable {s t u : State}

/-- Both branches of a rule's test. -/
theorem ite {p : Prop} [Decidable p] (h : SameMem s t) (h' : SameMem s u) : SameMem s (if p then t else u) := by
  split
  · exact h
  · exact h'

/-- A bus operation: its `_withBus` law says that it changes the bus side only. -/
theorem bus (h : SameMem s t) (hw : u = withBus t u) : SameMem s u := by
  rw [hw]; exact h

theorem goto (h : SameMem s t) {c : Byte} : SameMem s (goto c t) := h

theorem arm (h : SameMem s t) {d : Duration} : SameMem s (arm d t) := h

theorem complete (h : SameMem s t) {c : BitVec 3} : SameMem s (complete c t) := h

theorem withCtx (h : SameMem s t) {c : Context} : SameMem s { t with ctx := c } := h

theorem release (h : SameMem s t) : SameMem s (release t) := h.bus (release_withBus t)

theorem zeroSectors (h : SameMem s t) : SameMem s (zeroSectors t) := h.withCtx.release.goto

theorem finishWrite (h : SameMem s t) {c : BitVec 3} : SameMem s (finishWrite c t) := h.release

theorem protocolError (h : SameMem s t) : SameMem s (protocolError t) := .ite h.withCtx.goto h.release.complete

theorem completeRead (h : SameMem s t) : SameMem s (completeRead t) := .ite h.release h.release

theorem takeUp (k : Byte) (s : State) : SameMem s (takeUp k s) := by
  obtain ⟨-, c, -, h⟩ | ⟨-, -, h⟩ | ⟨-, h⟩ := takeUp_cases s k <;> rw [h] <;> rfl

end SameMem

/-- The server's own tick takes up a request, enters the sink or does nothing. -/
theorem execStateNone_sameMem {s t : State} (h : execStateNone s = .next t) : SameMem s t := by
  unfold execStateNone at h
  split at h
  · split at h <;> cases h
    · rfl
    · exact .takeUp _ s
  · cases h; rfl
  · cases h; rfl

/-- No instruction but R_DATA stores (R253, R280). One case per shape of a rule's branches: `call` is a card command,
`byte` a received byte, `sent` a sent one. -/
theorem exec_sameMem {i : Instr} {s t : State} (hi : i ≠ .stateRData) (h : exec i s = .next t) : SameMem s t := by
  have start : SameMem s s := rfl
  have call {c : Byte} {a : BitVec 32} : SameMem s (sendCommand c a s).2 := sendCommand_mem c a s
  have byte : SameMem s (xchg FILL s).2 := rfl
  have sent (b : Byte) : SameMem s (send b s) := rfl
  cases i with
  | reqNone => cases h; exact start
  | reqInit | reqRead | reqWrite => cases h; exact .takeUp _ s
  | invalidKind04 | invalidKind08 | invalidKind10 | invalidKind20 | invalidKind40 | invalidKind80 =>
    cases h; exact .takeUp _ s
  | cmd0 | cmd1 | cmd8 | cmd9 | cmd16 | cmd17 | cmd24 | cmd55 | cmd58 | cmd59 | acmd41Hcs | acmd41 =>
    cases h; exact call
  | stateNone => exact execStateNone_sameMem h
  | stateIEnter | stateIFinCommit => cases h; rfl
  | stateIBusReset => cases h; exact (start.bus (sendAll_withBus _ (deselect s))).arm.goto
  | stateIWaitPower => cases h; exact .ite start.arm.goto start
  | stateISendReset | stateIPollLegacy => cases h; exact .ite call.goto (.ite call.protocolError call)
  | stateIPollOpCond => cases h; exact .ite call.withCtx.goto (.ite call.protocolError call)
  | stateICheckVersion => cases h; exact .ite call.goto call.goto
  | stateISendIfCond | stateIClassify => cases h; exact start.withCtx.goto
  | stateICollectEcho => cases h; exact .ite byte.withCtx.goto byte.withCtx
  | stateIValidateEcho => cases h; exact .ite start.arm.goto start.goto
  | stateIReadOcr =>
    cases h
    exact .ite (.ite call.protocolError call.withCtx) (.ite byte.withCtx.goto byte.withCtx)
  | stateISelectLegacy => cases h; exact (SameMem.ite call.withCtx call.withCtx).arm.goto
  | stateIDisableCrc => cases h; exact call.goto
  | stateISetBlklen => cases h; exact .ite call.protocolError call.goto
  | stateIFinCsdCmd => cases h; exact .ite call.zeroSectors call.arm.goto
  | stateIFinCsdToken => cases h; exact .ite byte.withCtx.goto (.ite byte byte.zeroSectors)
  | stateIFinCsdData => cases h; exact .ite byte.withCtx.release.withCtx.goto byte.withCtx
  | stateRSend => cases h; exact .ite call.release.complete call.arm.goto
  | stateRToken => cases h; exact .ite byte.withCtx.goto (.ite byte byte.release.complete)
  | stateWSend => cases h; exact .ite call.release.complete call.goto
  | stateWToken => cases h; exact (sent _).withCtx.goto
  | stateWData =>
    rw [exec, execStateWData] at h
    split at h <;> cases h
    exact .ite (sent _).withCtx.goto (sent _).withCtx
  | stateWCrc => cases h; exact .ite (sent _).withCtx.goto (sent _).withCtx
  | stateWDresp => cases h; exact .ite byte.arm.goto byte.release.complete
  | stateWBusy => cases h; exact .ite byte.finishWrite (.ite byte.finishWrite byte)
  | stateRData => exact absurd rfl hi

/-- R_DATA leaves the memory that the copy of its byte leaves: a store at the window address, or none (R253). -/
theorem execStateRData_mem {s t : State} (h : exec .stateRData s = .next t) :
    (InWindow s.ctx s.ctx.idx.toNat ∧ t.mem = memWrite s.mem (readAddr s.ctx).toNat (cardAnswer s)) ∨
      (¬ InWindow s.ctx s.ctx.idx.toNat ∧ t.mem = s.mem) := by
  have copied : SameMem (copyByte (cardAnswer s) (xchg FILL s).2) t := by
    have start : SameMem (copyByte (cardAnswer s) (xchg FILL s).2) (copyByte (cardAnswer s) (xchg FILL s).2) := rfl
    rw [exec, execStateRData] at h
    split at h <;> cases h
    exact .ite start.withCtx.completeRead start.withCtx
  rw [show t.mem = _ from copied, ← inWindow_iff_InWindow]
  obtain ⟨hw, e⟩ | ⟨hw, e⟩ := copyByte_cases (cardAnswer s) (xchg FILL s).2 <;> rw [e]
  · exact .inl ⟨hw, rfl⟩
  · exact .inr ⟨by simpa using hw, rfl⟩

/-- Settles O56: R_DATA's store is at its window address, and a store leaves every other address alone. -/
theorem onlyReadDataStores : Obligations.OnlyReadDataStores := by
  intro i s t h
  refine ⟨fun hi => exec_sameMem hi h, ?_⟩
  rintro rfl a ha
  obtain ⟨hw, e⟩ | ⟨-, e⟩ := execStateRData_mem h <;> rw [e]
  exact memRead_write_other _ _ (ha hw)

/-! ## The canonical form -/

theorem exec_memWf {i : Instr} {s t : State} (hs : memWf s.mem = true) (h : exec i s = .next t) :
    memWf t.mem = true := by
  by_cases hi : i = .stateRData
  · subst hi
    obtain ⟨-, e⟩ | ⟨-, e⟩ := execStateRData_mem h <;> rw [e]
    · exact memWrite_wf _ _ _ hs
    · exact hs
  · rw [show t.mem = s.mem from exec_sameMem hi h]; exact hs

theorem tick_memWf {s t : State} (hs : memWf s.mem = true) (h : tick s = .next t) : memWf t.mem = true := by
  obtain ⟨i, -, e⟩ | ⟨-, -, e⟩ | ⟨-, -, e⟩ := tick_cases s <;> rw [e] at h
  · exact exec_memWf hs h
  · cases h; exact hs
  · cases h; exact hs

/-- Settles O52: a tick stores by `memWrite` or not at all, reset keeps memory, and the other agents are `SameBlock`'s. -/
theorem stepKeepsMemoryCanonical : Obligations.StepKeepsMemoryCanonical := by
  intro s t hs h
  have hs' : memWf (takeEvent s).mem = true := (takeEvent_mem s).symm ▸ hs
  unfold step at h
  by_cases htick : nextEvent s = .tick
  · rw [htick] at h; exact tick_memWf hs' h
  by_cases hreset : nextEvent s = .reset
  · rw [hreset] at h; cases h; exact hs'
  · exact (SameBlock.perform htick hreset h).memory hs'

end Sys2Proof.Machine
end

section
/-! Decoding and encoding (spec/30_encoding.md R80 to R86, R97, R101): each inverts the other. The commands' frames as the
codec builds them (R83 to R85), their response poll (R124), and the invalid request kinds (R293, R299). -/

namespace Sys2Proof.Machine

open Claims

/-! ## Bytes and words -/

/-- Four bytes are the big-endian bytes of the word they make (R10). -/
theorem bytesBe32_append (b1 b2 b3 b4 : Byte) : bytesBe32 (b1 ++ b2 ++ b3 ++ b4) = [b1, b2, b3, b4] := by
  have h : (b1 ++ b2 ++ b3 ++ b4 : BitVec 32).toNat =
      ((b1.toNat * 2 ^ 8 + b2.toNat) * 2 ^ 8 + b3.toNat) * 2 ^ 8 + b4.toNat :=
    (append_toNat _ _).trans (by simp only [append_toNat])
  simp only [bytesBe32, List.cons.injEq, BitVec.toNat_eq, extract_toNat, and_true, h]
  omega

/-- A word is made of its big-endian bytes (R10). -/
theorem append_bytesBe32 (v : BitVec 32) :
    v.extractLsb' 24 8 ++ v.extractLsb' 16 8 ++ v.extractLsb' 8 8 ++ v.extractLsb' 0 8 = v := by
  refine BitVec.eq_of_toNat_eq ((append_toNat _ _).trans ?_)
  simp only [append_toNat, extract_toNat]
  omega

/-- A concatenation as a number. -/
theorem append_eq_ofNat {n m : Nat} (x : BitVec n) (y : BitVec m) :
    x ++ y = BitVec.ofNat (n + m) (x.toNat * 2 ^ m + y.toNat) := by
  rw [← append_toNat, BitVec.ofNat_toNat, BitVec.setWidth_eq]

/-- A frame's first byte is its start bits and its index (R83). -/
theorem frameByte_eq {b : Byte} {n : BitVec 6} (hs : b.extractLsb' 6 2 = 0b01#2) (hn : b.extractLsb' 0 6 = n) :
    b = 0b01#2 ++ n := by
  rw [← hs, ← hn]
  exact (BitVec.extractLsb'_append_extractLsb' (w := 2) (len := 6)).symm

/-! ## Requests -/

theorem kindWithin_iff {lo hi k : Byte} : kindWithin lo hi k = true ↔ lo ≤ k ∧ k ≤ hi := by simp [kindWithin]

/-- The kinds above WRITE, range by range (R80). -/
theorem decodeRequest_of_gt {k : Byte} (h : 3 < k) :
    decodeRequest k =
      if k ≤ 0x07 then .invalidKind04 k
      else if k ≤ 0x0F then .invalidKind08 k
      else if k ≤ 0x1F then .invalidKind10 k
      else if k ≤ 0x3F then .invalidKind20 k
      else if k ≤ 0x7F then .invalidKind40 k
      else .invalidKind80 k := by
  rw [decodeRequest, if_neg, if_neg, if_neg, if_neg] <;> bv_omega

/-- The request of a kind byte is well-formed and spelled by that byte (R80). -/
theorem decodeRequest_spec (k : Byte) :
    wellFormed (decodeRequest k) = true ∧ formatOf (decodeRequest k) = .request8 ∧ encode (decodeRequest k) = [k] := by
  by_cases h : 3 < k
  · rw [decodeRequest_of_gt h]
    split_ifs <;> refine ⟨kindWithin_iff.2 ?_, rfl, rfl⟩ <;> bv_omega
  · obtain rfl | rfl | rfl | rfl : k = 0 ∨ k = 1 ∨ k = 2 ∨ k = 3 := by bv_omega
    all_goals exact ⟨rfl, rfl, rfl⟩

/-! ## States -/

/-- The instruction of a state code is well-formed and spelled by that code (R97). -/
theorem stateRows_spec {c : Byte} {i : Instr} (h : lookupState stateRows c = some i) :
    wellFormed i = true ∧ formatOf i = .state8 ∧ encode i = [c] :=
  lookupState_forall (P := fun c i => wellFormed i = true ∧ formatOf i = .state8 ∧ encode i = [c]) (by decide) h

/-! ## What a decoder accepts -/

/-- If the answer to `bytes` is an instruction, it is a well-formed one of the format, spelled by the bytes up to the
rest. -/
def Spelled (f : Format) (bytes : List Byte) (d : Decoded) : Prop :=
  ∀ i rest, d = .ok i rest → wellFormed i = true ∧ formatOf i = f ∧ bytes = encode i ++ rest

namespace Spelled

variable {f : Format} {bytes rest : List Byte} {i : Instr}

theorem reject {e : DecodeError} : Spelled f bytes (.reject e) := nofun

theorem ok (h : wellFormed i = true ∧ formatOf i = f ∧ bytes = encode i ++ rest) : Spelled f bytes (.ok i rest) := by
  rintro _ _ ⟨⟩; exact h

/-- Both branches of a decoder's test. -/
theorem ite {p : Prop} [Decidable p] {d d' : Decoded} (h : p → Spelled f bytes d) (h' : ¬ p → Spelled f bytes d') :
    Spelled f bytes (if p then d else d') := by
  split
  · exact h ‹_›
  · exact h' ‹_›

variable {b0 crc : Byte} {arg : BitVec 32}

/-- A command with a constant argument is accepted with that argument and its CRC byte only (R86). -/
theorem fixed {wantArg : BitVec 32} {wantCrc : Byte}
    (h : wellFormed i = true ∧ formatOf i = .frame48 ∧ encode i = b0 :: (bytesBe32 wantArg ++ [wantCrc])) :
    Spelled .frame48 (b0 :: (bytesBe32 arg ++ crc :: rest)) (fixedCommand i wantArg wantCrc arg crc rest) := by
  obtain ⟨hw, hf, he⟩ := h
  refine .ite (fun _ => .reject) fun ha => .ite (fun _ => .reject) fun hc => .ok ⟨hw, hf, ?_⟩
  rw [not_not.1 ha, not_not.1 hc, he]; simp

/-- A command with a sector is accepted with its CRC byte only (R86). -/
theorem sector (h : wellFormed i = true ∧ formatOf i = .frame48 ∧ encode i = b0 :: (bytesBe32 arg ++ [0x01])) :
    Spelled .frame48 (b0 :: (bytesBe32 arg ++ crc :: rest)) (sectorCommand i crc rest) := by
  obtain ⟨hw, hf, he⟩ := h
  refine .ite (fun _ => .reject) fun hc => .ok ⟨hw, hf, ?_⟩
  rw [not_not.1 hc, he]; simp

/-- A frame is accepted only with the start bits, an index of R86, and that row's argument and CRC byte. -/
theorem frame (b0 : Byte) (arg : BitVec 32) (crc : Byte) (rest : List Byte) :
    Spelled .frame48 (b0 :: (bytesBe32 arg ++ crc :: rest)) (decodeFrame b0 arg crc rest) := by
  refine .ite (fun _ => .reject) fun hs => ?_
  replace hs := not_not.1 hs
  refine .ite (fun h => .fixed ?_) fun _ => .ite (fun h => .fixed ?_) fun _ => .ite (fun h => .fixed ?_) fun _ =>
    .ite (fun h => .fixed ?_) fun _ => .ite (fun h => .fixed ?_) fun _ => .ite (fun h => .sector ?_) fun _ =>
    .ite (fun h => .sector ?_) fun _ => .ite (fun h => .ite (fun _ => .fixed ?_) fun _ => .fixed ?_) fun _ =>
    .ite (fun h => .fixed ?_) fun _ => .ite (fun h => .fixed ?_) fun _ => .ite (fun h => .fixed ?_) fun _ => .reject
  all_goals rw [frameByte_eq hs h]; exact ⟨rfl, rfl, rfl⟩

end Spelled

/-- Settles O2, format by format. -/
theorem encodeInvertsDecode : Obligations.EncodeInvertsDecode := by
  have spelled (f : Format) (bytes : List Byte) : Spelled f bytes (decode f bytes) := by
    match f, bytes with
    | .request8, k :: rest =>
      obtain ⟨hw, hf, he⟩ := decodeRequest_spec k
      exact .ok ⟨hw, hf, by rw [he]; rfl⟩
    | .state8, c :: rest =>
      rw [decode]
      cases h : lookupState stateRows c with
      | none => exact .reject
      | some i =>
        obtain ⟨hw, hf, he⟩ := stateRows_spec h
        exact .ok ⟨hw, hf, by rw [he]; rfl⟩
    | .frame48, b0 :: b1 :: b2 :: b3 :: b4 :: b5 :: rest =>
      have h := Spelled.frame b0 (b1 ++ b2 ++ b3 ++ b4) b5 rest
      rwa [bytesBe32_append] at h
    | .request8, [] | .state8, [] => exact .reject
    | .frame48, [] | .frame48, [_] | .frame48, [_, _] | .frame48, [_, _, _] | .frame48, [_, _, _, _]
    | .frame48, [_, _, _, _, _] => exact .reject
  exact fun f bytes rest i h => spelled f bytes i rest h

/-! ## What an encoding decodes to -/

/-- Settles O1: a kind's range selects its row, a sector is its four bytes, and every other encoding is a constant. -/
theorem decodeInvertsEncode : Obligations.DecodeInvertsEncode := by
  intro i rest h
  have sector {b0 : Byte} {i : BitVec 32 → Instr} (v : BitVec 32)
      (hi : ∀ a, decodeFrame b0 a 0x01 rest = .ok (i a) rest) :
      decode .frame48 (b0 :: (bytesBe32 v ++ [0x01]) ++ rest) = .ok (i v) rest :=
    (hi _).trans (by rw [append_bytesBe32])
  cases i with
  | reqNone | reqInit | reqRead | reqWrite => rfl
  | invalidKind04 k | invalidKind08 k | invalidKind10 k | invalidKind20 k | invalidKind40 k | invalidKind80 k =>
    obtain ⟨hlo, hhi⟩ := kindWithin_iff.1 h
    refine congrArg (Decoded.ok · rest) ?_
    rw [decodeRequest_of_gt (by bv_omega)]
    -- The branch of the kind's own range, then those whose tests its bounds exclude.
    split_ifs
    any_goals rfl
    all_goals bv_omega
  | cmd17 v => exact sector v fun _ => rfl
  | cmd24 v => exact sector v fun _ => rfl
  | cmd0 | cmd1 | cmd8 | cmd9 | cmd16 | cmd55 | cmd58 | cmd59 | acmd41Hcs | acmd41 => rfl
  | stateNone | stateIEnter | stateIBusReset | stateIWaitPower | stateISendReset | stateICheckVersion
  | stateISendIfCond | stateICollectEcho | stateIValidateEcho | stateIPollOpCond | stateIReadOcr | stateIClassify
  | stateISelectLegacy | stateIPollLegacy | stateIDisableCrc | stateISetBlklen | stateIFinCsdCmd | stateIFinCsdToken
  | stateIFinCsdData | stateIFinCommit => rfl
  | stateRSend | stateRToken | stateRData => rfl
  | stateWSend | stateWToken | stateWData | stateWCrc | stateWDresp | stateWBusy => rfl

/-- Settles O3, word by word. -/
theorem tableWordsDecode : Obligations.TableWordsDecode :=
  ⟨rfl, rfl, rfl, rfl, rfl, rfl, rfl, rfl, rfl⟩

/-! ## Command frames -/

/-- Settles O4: bits `k + 7` to `k` of the argument are its quotient by `2 ^ k` as a byte. -/
theorem frameBytes : Obligations.FrameBytes := by
  refine ⟨by decide +kernel, by decide +kernel, fun n arg => ?_⟩
  have hhead : 0b01#2 ++ n = BitVec.ofNat 8 (0x40 + n.toNat) := append_eq_ofNat _ _
  have hbyte (k : Nat) : arg.extractLsb' k 8 = BitVec.ofNat 8 (arg.toNat / 2 ^ k) := by
    rw [← Nat.shiftRight_eq_div_pow]; rfl
  have hcrc (c : BitVec 7) : c ++ 1#1 = BitVec.ofNat 8 (2 * c.toNat + 1) := by
    rw [mul_comm]; exact append_eq_ofNat _ _
  have htake : (frame n arg).take 5 = frameHead n arg := rfl
  rw [htake, frame, frameCrc, frameHead, bytesBe32, hcrc, hhead, hbyte 24, hbyte 16, hbyte 8, hbyte 0]
  simp

/-! ## The response poll -/

/-- Settles O10: the poll's law, a byte being no response exactly from 0x80 on. -/
theorem responsePollStops : Obligations.ResponsePollStops := by
  intro n s
  obtain ⟨polled, hlen, hpolled, hbus, hend, -, -⟩ := pollResponse_spec n s
  simp only [isResponse_false_iff] at hpolled hend
  exact ⟨polled, _, rfl, hbus, hpolled, hlen, hend⟩

/-! ## Invalid request kinds -/

/-- An idle server answers a kind above WRITE with PARERR (R293, R299). -/
theorem takeUp_invalid {k : Byte} {s : State} (hs : s.srv = .idle) (hk : 3 < k) : takeUp k s = posted 3 s := by
  have hv : validate k s = some Code.parerr := if_pos (by bv_omega)
  rw [takeUp, hs, hv]; rfl

/-- Settles O18: every row's range lies above WRITE's kind. -/
theorem invalidKindsPostParerr : Obligations.InvalidKindsPostParerr := by
  intro i k s hs hw hi
  have within {lo hi : Byte} (hlo : 3 < lo) (h : kindWithin lo hi k = true) : takeUp k s = posted 3 s := by
    obtain ⟨hk, -⟩ := kindWithin_iff.1 h
    exact takeUp_invalid hs (by bv_omega)
  obtain rfl | rfl | rfl | rfl | rfl | rfl := hi <;> exact congrArg Host.Outcome.next (within (by decide) hw)

end Sys2Proof.Machine
end

section
/-! The codec (spec/40_codec.md R120 to R125, R140 to R150): what one frame with its select sequence and poll leaves, and
the card commands as calls of `send_command` that send their row's frame. -/

namespace Sys2Proof.Machine

open Claims

/-! ## One frame -/

/-- `t` is `s` after one frame with the bytes `bytes` (R123, R124): the idle pulse, the frame, the polls, whose last
answer is the result; the card is selected, and nothing but the bus side has changed. -/
def FrameSent (bytes : List Byte) (s t : State) : Prop :=
  ∃ (a0 a1 r : Byte) (answers polled : List Byte),
    answers.length = 6 ∧ (∀ b ∈ polled, 0x80 ≤ b) ∧
      t.bus =
        s.bus ++ [⟨false, s.hs, FILL, a0⟩, ⟨true, s.hs, FILL, a1⟩] ++
          List.zipWith (fun o a => ⟨true, s.hs, o, a⟩) bytes answers ++
          polled.map (fun a => ⟨true, s.hs, FILL, a⟩) ++ [⟨true, s.hs, FILL, r⟩] ∧
      lastAnswer t = some r ∧ t.cs = true ∧ t = withBus s t

theorem lastAnswer_of_bus {t : State} {es : List BusEvent} {e : BusEvent} (h : t.bus = es ++ [e]) :
    lastAnswer t = some e.answer := by
  rw [lastAnswer, h, List.getLast?_concat]; rfl

/-- A frame's law, a byte being no response exactly from 0x80 on. -/
theorem sendFrame_frameSent (n : BitVec 6) (arg : BitVec 32) (s : State) :
    FrameSent (frame n arg) s (sendFrame n arg s).2 := by
  obtain ⟨a0, a1, answers, polled, hlen, hpolled, hbus, hcs, hw⟩ := sendFrame_spec n arg s
  simp only [isResponse_false_iff] at hpolled
  exact ⟨a0, a1, _, answers, polled, hlen, hpolled, hbus, lastAnswer_of_bus hbus, hcs, hw⟩

/-! ## The card commands -/

/-- A card command is one `send_command` call, with the index and argument of its row's frame; bit 7 of its code marks an
ACMD (R121, R140 to R150). -/
theorem exec_command {i : Instr} (hi : formatOf i = .frame48) :
    ∃ (code : Byte) (arg : BitVec 32),
      (∀ s, exec i s = .next (sendCommand code arg s).2) ∧ frame (code.extractLsb' 0 6) arg = encode i ∧
        code.getLsbD 7 = decide (i = .acmd41 ∨ i = .acmd41Hcs) := by
  obtain ⟨hframe0, hframe8, -⟩ := frameBytes
  cases i with
  | cmd0 => exact ⟨Cmd.cmd0, 0x00000000, fun _ => rfl, hframe0, rfl⟩
  | cmd1 => exact ⟨Cmd.cmd1, 0x00000000, fun _ => rfl, rfl, rfl⟩
  | cmd8 => exact ⟨Cmd.cmd8, 0x000001AA, fun _ => rfl, hframe8, rfl⟩
  | cmd9 => exact ⟨Cmd.cmd9, 0x00000000, fun _ => rfl, rfl, rfl⟩
  | cmd16 => exact ⟨Cmd.cmd16, 0x00000200, fun _ => rfl, rfl, rfl⟩
  | cmd17 sector => exact ⟨Cmd.cmd17, sector, fun _ => rfl, rfl, rfl⟩
  | cmd24 sector => exact ⟨Cmd.cmd24, sector, fun _ => rfl, rfl, rfl⟩
  | cmd55 => exact ⟨Cmd.cmd55, 0x00000000, fun _ => rfl, rfl, rfl⟩
  | cmd58 => exact ⟨Cmd.cmd58, 0x00000000, fun _ => rfl, rfl, rfl⟩
  | cmd59 => exact ⟨Cmd.cmd59, 0x00000000, fun _ => rfl, rfl, rfl⟩
  | acmd41Hcs => exact ⟨Cmd.acmd41, 0x40000000, fun _ => rfl, rfl, rfl⟩
  | acmd41 => exact ⟨Cmd.acmd41, 0x00000000, fun _ => rfl, rfl, rfl⟩
  | _ => cases hi

/-- Settles O11: without bit 7 in its code, the call is its one frame. -/
theorem commandSendsItsFrame : Obligations.CommandSendsItsFrame := by
  intro i s hi hlegacy hhcs
  obtain ⟨code, arg, hexec, hframe, hbit⟩ := exec_command hi
  have hplain : code.getLsbD 7 = false := hbit.trans (decide_eq_false (not_or.2 ⟨hlegacy, hhcs⟩))
  obtain ⟨a0, a1, r, answers, polled, hsent⟩ := sendFrame_frameSent (code.extractLsb' 0 6) arg s
  rw [hframe, ← sendCommand_plain hplain] at hsent
  exact ⟨_, a0, a1, r, answers, polled, hexec s, hsent⟩

/-- Settles O12: with bit 7 in its code, the call is CMD55's, and then its own frame unless CMD55's result is above 1. -/
theorem acmdPrefixShortCircuits : Obligations.AcmdPrefixShortCircuits := by
  intro i s hi
  obtain ⟨code, arg, hexec, hframe, hbit⟩ := exec_command (i := i) (by obtain rfl | rfl := hi <;> rfl)
  have hcall := sendCommand_prefixed (hbit.trans (decide_eq_true hi)) arg s
  refine ⟨(callCmd55 s).2, (callCmd55 s).1, ⟨rfl, sendCommand_lastAnswer ..⟩, fun hp => ?_, fun hp => ?_⟩
  · rw [hexec, hcall, if_pos hp]
  · rw [if_neg (BitVec.not_lt.2 hp)] at hcall
    have hhs : (callCmd55 s).2.hs = s.hs := sendCommand_hs ..
    obtain ⟨a0, a1, r, answers, polled, hsent⟩ := sendFrame_frameSent (code.extractLsb' 0 6) arg (callCmd55 s).2
    rw [hframe, ← hcall, hhs] at hsent
    exact ⟨_, a0, a1, r, answers, polled, hexec s, hsent⟩

/-- Settles O13: a `send_command` call changes only the bus side, adds to the history and ends selected, with its result
as the last answer. -/
theorem commandsTouchOnlyTheBus : Obligations.CommandsTouchOnlyTheBus := by
  intro i s hi
  obtain ⟨code, arg, hexec, -, -⟩ := exec_command hi
  obtain ⟨hbus, hcs, hlast, hmore⟩ := sendCommand_spec code arg s
  exact ⟨_, _, ⟨hexec s, hlast⟩, hbus, hcs, hmore⟩

end Sys2Proof.Machine
end

section
/-! The CRC registers (spec/41_crc.md R160 to R162, R165 to R167): a register fed its own top bit only shifts, so fed all
its own bits it ends at zero; and one bit of CRC-7 is linear in register and message. -/

namespace Sys2Proof.Machine

/-! ## A register fed its own bits -/

/-- A step that shifts when fed the register's top bit, fed the register's own top `n` bits, shifts it by `n`. -/
theorem foldl_ownBits {w : Nat} {f : BitVec w → Bool → BitVec w} (hf : ∀ c, f c c.msb = c <<< 1) (c : BitVec w)
    (n : Nat) : (List.range n).foldl (fun d k => f d (c.getMsbD k)) c = c <<< n := by
  induction n with
  | zero => simp
  | succ n ih =>
    have hmsb : c.getMsbD n = (c <<< n).msb := by simp [BitVec.msb]
    rw [List.range_succ, List.foldl_append, ih, List.foldl_cons, List.foldl_nil, hmsb, hf, BitVec.shiftLeft_add]

/-- CRC-7's register feeds nothing back where the message bit is its top bit (R160). -/
theorem crc7Bit_msb (c : BitVec 7) : crc7Bit c c.msb = c <<< 1 := by
  simp [crc7Bit, BitVec.msb_eq_getLsbD_last]

/-- CRC-16's register feeds nothing back where the message bit is its top bit (R165). -/
theorem crc16Bit_msb (c : BitVec 16) : crc16Bit c c.msb = c <<< 1 := by
  simp [crc16Bit, BitVec.msb_eq_getLsbD_last]

/-- CRC-7's register fed its own 7 bits ends at zero (R162). -/
theorem crc7_ownBits (c : BitVec 7) : [6, 5, 4, 3, 2, 1, 0].foldl (fun d i => crc7Bit d (c.getLsbD i)) c = 0 :=
  (foldl_ownBits crc7Bit_msb c 7).trans (BitVec.shiftLeft_eq_zero le_rfl)

/-- CRC-16's register fed its own high byte shifts by a byte. -/
theorem crc16Upd_highByte (c : BitVec 16) : crc16Upd c (c.extractLsb' 8 8) = c <<< 8 := by
  rw [← foldl_ownBits crc16Bit_msb c 8]
  simp [crc16Upd, bitOrder, List.range_succ, BitVec.getMsbD]

/-- CRC-16's register fed its own two bytes, the high one first, ends at zero (R167). -/
theorem crc16Upd_ownBytes (c : BitVec 16) :
    crc16Upd (crc16Upd c (c.extractLsb' 8 8)) (c.extractLsb' 0 8) = 0 := by
  have hlow : c.extractLsb' 0 8 = (c <<< 8).extractLsb' 8 8 := by
    ext i hi
    simp [show 8 + i < 16 by omega, BitVec.getLsbD_eq_getElem (show i < 16 by omega)]
  rw [crc16Upd_highByte, hlow, crc16Upd_highByte, ← BitVec.shiftLeft_add]
  exact BitVec.shiftLeft_eq_zero le_rfl

/-! ## Linearity of CRC-7 -/

/-- One bit of R160 as a sum: the shift and the feedback. -/
theorem crc7Bit_eq (c : BitVec 7) (b : Bool) :
    crc7Bit c b = (c <<< 1) ^^^ if c.getLsbD 6 ^^ b then 0x09 else 0 := by
  unfold crc7Bit; split <;> simp

/-- One bit: shift and feedback are linear both. -/
theorem crc7Bit_xor (c d : BitVec 7) (x y : Bool) : crc7Bit (c ^^^ d) (x ^^ y) = crc7Bit c x ^^^ crc7Bit d y := by
  have hfeedback (p q : Bool) :
      (if p ^^ q then (0x09 : BitVec 7) else 0) = (if p then 0x09 else 0) ^^^ if q then 0x09 else 0 := by
    revert p q; decide
  have hbits : ((c ^^^ d).getLsbD 6 ^^ (x ^^ y)) = ((c.getLsbD 6 ^^ x) ^^ (d.getLsbD 6 ^^ y)) := by
    simp [Bool.xor_left_comm]
  rw [crc7Bit_eq, crc7Bit_eq, crc7Bit_eq, hbits, hfeedback, BitVec.shiftLeft_xor_distrib]
  ac_rfl

theorem crc7Byte_xor (c d : BitVec 7) (a b : Byte) : crc7Byte (c ^^^ d) (a ^^^ b) = crc7Byte c a ^^^ crc7Byte d b := by
  simp only [crc7Byte, bitOrder, List.foldl_cons, List.foldl_nil, BitVec.getLsbD_xor, crc7Bit_xor]

/-- The linearity of R162, from any two registers. -/
theorem foldl_crc7Byte_xor {a b : List Byte} (h : a.length = b.length) (c d : BitVec 7) :
    (List.zipWith (· ^^^ ·) a b).foldl crc7Byte (c ^^^ d) = a.foldl crc7Byte c ^^^ b.foldl crc7Byte d := by
  induction a generalizing b c d with
  | nil => cases b with
    | nil => rfl
    | cons y b => cases h
  | cons x a ih => cases b with
    | nil => cases h
    | cons y b =>
      rw [List.zipWith_cons_cons, List.foldl_cons, crc7Byte_xor]
      exact ih (Nat.succ.inj h) _ _

/-! ## Zero bytes -/

/-- A zero byte leaves the zero register (R167). -/
theorem crc16_zeros (n : Nat) : crc16 (List.replicate n 0) = 0 := by
  have hzero : crc16Upd 0 0 = 0 := by decide
  induction n with
  | zero => rfl
  | succ n ih => rwa [crc16, List.replicate_succ, List.foldl_cons, hzero]

/-! ## The obligations -/

/-- Settles O5: linearity from the two zero registers, whose exclusive or is zero. -/
theorem crc7Properties : Obligations.Crc7Properties :=
  ⟨rfl, fun _ _ h => foldl_crc7Byte_xor h 0 0, fun m => crc7_ownBits (crc7 m)⟩

/-- Settles O6: a zero byte keeps a zero register; the trailer is the register's own two bytes. -/
theorem crc16Properties : Obligations.Crc16Properties := by
  refine ⟨rfl, crc16_zeros, fun m => ?_⟩
  rw [crc16, List.foldl_append]
  exact crc16Upd_ownBytes (crc16 m)

end Sys2Proof.Machine
end

section
/-! The capacity decoder (spec/42_capacity.md R181 to R183, R185): each field of R98 is a window of the CSD read as one
number, and a newer card's `(C_SIZE + 1) * 1024` reaches 2^32 only at the largest size field. -/

namespace Sys2Proof.Machine

open Claims

/-! ## The CSD's fields as numbered bits (R98) -/

section

variable (csd : Vector Byte 18)

/-- R98's numbering written out: byte `k` starts at bit `8 * (15 - k)`. -/
theorem csdNumber_eq_sum :
    csdNumber csd =
      csd[0].toNat * 2 ^ 120 + csd[1].toNat * 2 ^ 112 + csd[2].toNat * 2 ^ 104 + csd[3].toNat * 2 ^ 96 +
      csd[4].toNat * 2 ^ 88 + csd[5].toNat * 2 ^ 80 + csd[6].toNat * 2 ^ 72 + csd[7].toNat * 2 ^ 64 +
      csd[8].toNat * 2 ^ 56 + csd[9].toNat * 2 ^ 48 + csd[10].toNat * 2 ^ 40 + csd[11].toNat * 2 ^ 32 +
      csd[12].toNat * 2 ^ 24 + csd[13].toNat * 2 ^ 16 + csd[14].toNat * 2 ^ 8 + csd[15].toNat := by
  simp [csdNumber, List.range_succ]
  omega

theorem csdStructure_toNat : (csdStructure csd).toNat = bits (csdNumber csd) 127 126 := by
  rw [csdStructure, extract_toNat, bits, csdNumber_eq_sum]
  omega

theorem csdReadBlLen_toNat : (csdReadBlLen csd).toNat = bits (csdNumber csd) 83 80 := by
  rw [csdReadBlLen, extract_toNat, bits, csdNumber_eq_sum]
  omega

theorem csdSizeV1_toNat : (csdSizeV1 csd).toNat = bits (csdNumber csd) 73 62 := by
  rw [csdSizeV1, append_toNat, append_toNat, extract_toNat, extract_toNat, bits, csdNumber_eq_sum]
  omega

theorem csdSizeMult_toNat : (csdSizeMult csd).toNat = bits (csdNumber csd) 49 47 := by
  rw [csdSizeMult, append_toNat, extract_toNat, extract_toNat, bits, csdNumber_eq_sum]
  omega

theorem csdSizeV2_toNat : (csdSizeV2 csd).toNat = bits (csdNumber csd) 69 48 := by
  rw [csdSizeV2, append_toNat, append_toNat, extract_toNat, bits, csdNumber_eq_sum]
  omega

/-! ## The decoder's two layouts -/

/-- Newer cards (R182): a `CSD_STRUCTURE` of 1. -/
theorem decodeCsd_newer {csd : Vector Byte 18} (h : csdStructure csd = 1) (divide : Bool) :
    decodeCsd divide csd = sectorsV2 csd := if_pos h

/-- Older cards (R183): any other `CSD_STRUCTURE`. -/
theorem decodeCsd_older {csd : Vector Byte 18} (h : csdStructure csd ≠ 1) (divide : Bool) :
    decodeCsd divide csd = sectorsV1 divide csd := if_neg h

theorem sectorsV2_toNat : (sectorsV2 csd).toNat = ((csdSizeV2 csd).toNat + 1) * 1024 % 2 ^ 32 :=
  BitVec.toNat_ofNat _ _

/-- The division, where there is one, comes before the reduction (R183). -/
theorem sectorsV1_toNat (divide : Bool) :
    (sectorsV1 divide csd).toNat =
      ((csdSizeV1 csd).toNat + 1) * 2 ^ ((csdSizeMult csd).toNat + 2 + (csdReadBlLen csd).toNat) /
        (if divide then 512 else 1) % 2 ^ 32 := by
  cases divide with
  | false => rw [sectorsV1, BitVec.toNat_ofNat, if_neg Bool.false_ne_true, if_neg Bool.false_ne_true, Nat.div_one]
  | true => exact BitVec.toNat_ofNat _ _

end

/-! ## The obligations -/

/-- Settles O7: each field is its window of the CSD's bits, and the layout is the one the structure field's window
names. -/
theorem capacityFromCsdBits : Obligations.CapacityFromCsdBits := by
  intro divide csd
  have hstructure : csdStructure csd = 1 ↔ bits (csdNumber csd) 127 126 = 1 := by
    rw [← csdStructure_toNat, ← BitVec.toNat_inj]; rfl
  by_cases h : csdStructure csd = 1
  · rw [decodeCsd_newer h, sectorsV2_toNat, csdSizeV2_toNat, if_pos (hstructure.mp h)]
  · rw [decodeCsd_older h, sectorsV1_toNat, csdSizeV1_toNat, csdSizeMult_toNat, csdReadBlLen_toNat,
      if_neg (mt hstructure.mpr h)]

/-- Settles O8: the size field is at most 0x3FFFFF, and only that size makes the product 2^32. -/
theorem newCardCapacityWrapsOnlyAtTheTop : Obligations.NewCardCapacityWrapsOnlyAtTheTop := by
  intro divide csd hnewer
  rw [decodeCsd_newer hnewer]
  refine ⟨fun htop => ?top, fun hlower => ?lower⟩
  case top => rw [sectorsV2, htop]; rfl
  case lower =>
    have hsize : (csdSizeV2 csd).toNat < 0x3FFFFF := by bv_omega
    have hcount : (sectorsV2 csd).toNat = ((csdSizeV2 csd).toNat + 1) * 1024 := by
      rw [sectorsV2_toNat, Nat.mod_eq_of_lt (by omega)]
    refine ⟨hcount, fun hzero => ?_⟩
    rw [hzero] at hcount
    bv_omega

end Sys2Proof.Machine
end

section
/-! The initialization FSM (spec/43_init_fsm.md R201 to R222, R230): each rule's micro-step, its card command run as the
row's own instruction and its received byte as one exchange. -/

namespace Sys2Proof.Machine

open Claims

/-! ## What the rules share -/

/-- A row that is one `send_command` call answers with the call's result (R87, R125). -/
theorem answers_sendCommand {i : Instr} {s : State} {code : Byte} {arg : BitVec 32}
    (h : exec i s = .next (sendCommand code arg s).2) :
    Answers i s (sendCommand code arg s).2 (sendCommand code arg s).1 :=
  ⟨h, sendCommand_lastAnswer ..⟩

theorem protocolError_eq (s : State) : protocolError s = protocolErrored s := rfl

/-- The command tick of R204, R210 and R216: the wanted answer goes on, and without it an expired timer, which the
command has not touched, is a protocol error. -/
theorem commandTick_eq (code : Byte) (arg : BitVec 32) (s t : State) (want : Byte) :
    (if (sendCommand code arg s).1 = want then t
      else if expired (sendCommand code arg s).2 then protocolError (sendCommand code arg s).2
      else (sendCommand code arg s).2) =
    if (sendCommand code arg s).1 = want then t
      else if s.phase = .expired then protocolErrored (sendCommand code arg s).2
      else (sendCommand code arg s).2 := by
  simp only [expired_sendCommand, expired_iff, protocolError_eq]

/-- A byte array after one store, element by element (R207, R211, R221). -/
theorem getElem_stored {n : Nat} (bytes : Vector Byte n) (i : Nat) (b : Byte) (j : Fin n) :
    (bytes.setIfInBounds i b)[j] = if j.val = i then b else bytes[j] := by
  simp [Vector.getElem_setIfInBounds, eq_comm]

@[simp] theorem sendAll_polls (outs : List Byte) (s : State) : (sendAll outs s).polls = s.polls := by
  induction outs generalizing s with
  | nil => rfl
  | cons out rest ih => exact ih (send out s)

/-- The same byte sent `n` times: one exchange for each answer. -/
theorem sendAll_replicate_bus (n : Nat) (out : Byte) (s : State) :
    ∃ answers : List Byte, answers.length = n ∧
      (sendAll (List.replicate n out) s).bus = s.bus ++ answers.map (busEvent s out) := by
  obtain ⟨answers, hlen, hbus, -, -⟩ := sendAll_spec (List.replicate n out) s
  rw [List.length_replicate] at hlen
  subst hlen
  refine ⟨answers, rfl, ?_⟩
  rw [hbus, ← List.map_const', List.zipWith_map_left, List.zipWith_self]

/-! ## Enter to SendReset (R201 to R204) -/

/-- Settles O30: BusReset is ten exchanges of the fill byte between the deselect and the timer; beside the bus side, it
changes only the timer and the state tag. -/
theorem enterAndBusReset : Obligations.EnterAndBusReset := by
  intro s
  obtain ⟨answers, hlen, hbus⟩ := sendAll_replicate_bus BUS_RESET_BYTES FILL (deselect s)
  have hw := withBus_trans (deselect_withBus s) (sendAll_withBus (List.replicate BUS_RESET_BYTES FILL) (deselect s))
  have hcs := sendAll_cs (List.replicate BUS_RESET_BYTES FILL) (deselect s)
  have hpolls := sendAll_polls (List.replicate BUS_RESET_BYTES FILL) (deselect s)
  refine ⟨rfl, _, answers, rfl, hlen, ?_⟩
  generalize sendAll (List.replicate BUS_RESET_BYTES FILL) (deselect s) = t at hbus hw hcs hpolls ⊢
  exact ⟨hbus, hcs, hpolls, congrArg (fun t => goto Fsm.iWaitPower (arm .tPower t)) hw⟩

/-- Settles O31: the wait reads the timer only; SendReset is a command tick that wants 0x01. -/
theorem waitPowerAndSendReset : Obligations.WaitPowerAndSendReset := by
  intro s
  have hwait : expired s = true ↔ s.phase = .expired := decide_eq_true_iff
  exact ⟨congrArg Host.Outcome.next (if_congr hwait rfl rfl), _, _, answers_sendCommand rfl,
    congrArg Host.Outcome.next (commandTick_eq ..)⟩

/-! ## The version branch (R205 to R212) -/

/-- Settles O32: CheckVersion's two branches differ in the next state only. -/
theorem versionBranch : Obligations.VersionBranch := by
  intro s
  have hbranch := (apply_ite (fun c => goto c (callCmd8 s).2) ((callCmd8 s).1 = 0x01) 0x15 0x1B).symm
  exact ⟨⟨_, _, answers_sendCommand rfl, congrArg Host.Outcome.next hbranch⟩, rfl, rfl⟩

/-- One tick of CollectVoltageEcho (R207). -/
theorem exec_collectEcho (s : State) :
    exec .stateICollectEcho s =
      .next
        { exchanged 0xFF s with
          ctx :=
            { s.ctx with
              echo := s.ctx.echo.setIfInBounds s.ctx.echoIdx.toNat (cardAnswer s), echoIdx := s.ctx.echoIdx + 1 }
          fsm := if s.ctx.echoIdx = 3 then 0x17 else s.fsm } := by
  have hlast : s.ctx.echoIdx + 1 = 4 ↔ s.ctx.echoIdx = 3 := by bv_omega
  refine congrArg Host.Outcome.next ((if_congr hlast rfl rfl).trans ?_)
  split <;> rfl

/-- Settles O33: the tick's store, read element by element. -/
theorem echoBytesAreCollected : Obligations.EchoBytesAreCollected :=
  fun s _ => ⟨_, exec_collectEcho s, getElem_stored _ _ _, rfl, rfl, rfl⟩

/-- ReadOCR's first tick (R211). -/
theorem exec_readOcr_first {s : State} (h : s.ctx.ocrIdx = 0) :
    exec .stateIReadOcr s =
      .next
        (if (callCmd58 s).1 ≠ 0x00 then protocolErrored (callCmd58 s).2
         else { (callCmd58 s).2 with ctx := { (callCmd58 s).2.ctx with ocrIdx := 1 } }) :=
  congrArg Host.Outcome.next (if_pos h)

/-- ReadOCR's later ticks (R211). -/
theorem exec_readOcr_byte {s : State} (h : s.ctx.ocrIdx ≠ 0) :
    exec .stateIReadOcr s =
      .next
        { exchanged 0xFF s with
          ctx :=
            { s.ctx with
              ocr := s.ctx.ocr.setIfInBounds (s.ctx.ocrIdx.toNat - 1) (cardAnswer s), ocrIdx := s.ctx.ocrIdx + 1 }
          fsm := if s.ctx.ocrIdx = 4 then 0x1A else s.fsm } := by
  have hlast : s.ctx.ocrIdx + 1 = 5 ↔ s.ctx.ocrIdx = 4 := by bv_omega
  refine congrArg Host.Outcome.next ((if_neg h).trans ((if_congr hlast rfl rfl).trans ?_))
  split <;> rfl

/-- Settles O34: a command tick that wants 0x00; then ReadOCR's two kinds of tick, told apart by the index. -/
theorem operatingConditionAndOcr : Obligations.OperatingConditionAndOcr := by
  intro s
  refine ⟨⟨_, _, answers_sendCommand rfl, congrArg Host.Outcome.next (commandTick_eq ..)⟩,
    fun hfirst => ⟨_, _, answers_sendCommand rfl, exec_readOcr_first hfirst⟩, fun hlo _ => ?byte⟩
  case byte =>
    refine ⟨_, exec_readOcr_byte (by bv_omega), fun j => ?_, rfl, rfl, rfl⟩
    have hindex : j.val = s.ctx.ocrIdx.toNat - 1 ↔ j.val + 1 = s.ctx.ocrIdx.toNat := by bv_omega
    rw [getElem_stored]
    simp only [hindex]

/-! ## The card's type and the legacy branch (R212 to R218) -/

/-- Settles O35: bit 6 is the bit of weight 64, and the probe's branches differ in the two recorded fields only. -/
theorem cardClassification : Obligations.CardClassification := by
  intro s
  refine ⟨?classify, _, _, answers_sendCommand rfl, ?probe⟩
  case classify =>
    have hbit : s.ctx.ocr[0].getLsbD 6 = decide (s.ctx.ocr[0].toNat / 64 % 2 = 1) :=
      Nat.testBit_eq_decide_div_mod_eq
    rw [exec, execStateIClassify, hbit]
    simp only [decide_eq_true_eq]
    rfl
  case probe =>
    rw [exec, execStateISelectLegacy, callAcmd41]
    dsimp only
    split <;> rfl

/-- Settles O36: in either case the selected row is the call of `poll_cmd`, a command tick that wants 0x00; the two
later commands are CMD59 and CMD16. -/
theorem legacyBranch : Obligations.LegacyBranch := by
  intro s
  refine ⟨fun i hi => ?poll, ⟨_, rfl, rfl⟩, _, _, answers_sendCommand rfl, rfl⟩
  case poll =>
    have hcall : exec i s = .next (sendCommand s.ctx.pollCmd 0 s).2 := by
      obtain ⟨hcmd, rfl⟩ | ⟨hcmd, rfl⟩ := hi <;> rw [hcmd] <;> rfl
    exact ⟨_, _, answers_sendCommand hcall, congrArg Host.Outcome.next (commandTick_eq ..)⟩

/-! ## Finalize (R219 to R222) -/

/-- Settles O37: both failures are `zeroSectors`, and the filler is tested with the timer. -/
theorem csdCommandAndToken : Obligations.CsdCommandAndToken := by
  intro s
  have htimer : expired (xchg FILL s).2 = false ↔ s.phase ≠ .expired := decide_eq_false_iff_not
  have hfiller := and_congr_right' (a := cardAnswer s = 0xFF) htimer
  exact ⟨⟨_, _, answers_sendCommand rfl, rfl⟩,
    congrArg Host.Outcome.next (if_congr .rfl rfl (if_congr hfiller rfl rfl))⟩

/-- One tick of Finalize's CSD bytes (R221), before and at the eighteenth. -/
theorem exec_finCsdData (s : State) :
    exec .stateIFinCsdData s =
      .next
        (if s.ctx.csdIdx = 17 then
          goto Fsm.iFinCommit
            { release (storeCsd (cardAnswer s) (exchanged 0xFF s)) with
              ctx :=
                { (storeCsd (cardAnswer s) s).ctx with
                  sectorCount := decodeCsd s.params.csdV1Divide (storeCsd (cardAnswer s) s).ctx.csd } }
         else storeCsd (cardAnswer s) (exchanged 0xFF s)) := by
  have hlast : s.ctx.csdIdx + 1 = 18 ↔ s.ctx.csdIdx = 17 := by bv_omega
  exact congrArg Host.Outcome.next (if_congr hlast rfl rfl)

/-- Settles O38: the tick's store, read element by element, and its two branches. -/
theorem csdBytesAreCollected : Obligations.CsdBytesAreCollected := by
  intro s _
  refine ⟨_, (storeCsd (cardAnswer s) s).ctx.csd, exec_finCsdData s, getElem_stored _ _ _, fun hmore => if_neg hmore,
    fun hlast => (if_pos hlast).trans ?_⟩
  simp only [storeCsd, hlast]
  rfl

/-- Settles O39: a subtraction of 1 is an addition of 2^32 - 1. -/
theorem commitMountsTheCard : Obligations.CommitMountsTheCard := by
  intro s
  have hlast : s.ctx.sectorCount - 1 = BitVec.ofNat 32 (s.ctx.sectorCount.toNat + (2 ^ 32 - 1)) := by bv_omega
  rw [← hlast]
  rfl

/-! ## The protocol-error procedure (R230, R231) -/

/-- Settles O40: a restart counts one from below the bound, and the exit counts none. -/
theorem protocolErrorProcedure : Obligations.ProtocolErrorProcedure := by
  intro s
  refine ⟨protocolError_eq s, ?_⟩
  obtain ⟨hlt, h⟩ | ⟨-, h⟩ := protocolError_cases s <;> rw [h]
  · exact ⟨rfl, fun _ => by change s.ctx.retry + 1 ≤ _; bv_omega⟩
  · exact ⟨rfl, id⟩

end Sys2Proof.Machine
end

section
/-! The read FSM (spec/44_read_fsm.md R251 to R256): its command and token, one byte of the stream, and by induction over
the bytes the card has still to send, the whole stream. -/

namespace Sys2Proof.Machine

open Claims

/-! ## The command and the token (R251, R252) -/

/-- An exchange does not change what the phase timer says. -/
theorem unexpired_xchg_iff (out : Byte) (s : State) : expired (xchg out s).2 = false ↔ s.phase ≠ .expired :=
  decide_eq_false_iff_not

/-- Settles O41: a failed command and a failed token both release and complete; the filler is tested with the timer. -/
theorem readCommandAndToken : Obligations.ReadCommandAndToken := by
  intro s
  have hfiller := and_congr_right' (a := cardAnswer s = 0xFF) (unexpired_xchg_iff FILL s)
  exact ⟨⟨_, _, answers_sendCommand rfl, rfl⟩,
    congrArg Host.Outcome.next (if_congr .rfl rfl (if_congr hfiller rfl rfl))⟩

/-! ## One byte of the stream (R253) -/

/-- The running CRC takes the 512 data bytes. -/
theorem takeCrc_crcCalc (b : Byte) (c : Context) :
    (takeCrc b c).crcCalc = if c.idx.toNat < 512 then crc16Upd c.crcCalc b else c.crcCalc := by
  unfold takeCrc
  split
  · rfl
  · split <;> rfl

/-- The received CRC takes the two trailer bytes, the high one first. -/
theorem takeCrc_crcRecv (b : Byte) (c : Context) :
    (takeCrc b c).crcRecv =
      if c.idx.toNat < 512 then c.crcRecv
      else if c.idx.toNat = 512 then b ++ (0x00 : Byte) else c.crcRecv.extractLsb' 8 8 ++ b := by
  have hhigh : c.idx = 512 ↔ c.idx.toNat = 512 := by rw [← BitVec.toNat_inj]; rfl
  rw [takeCrc]
  simp only [hhigh]
  split
  · rfl
  · split <;> rfl

theorem takeCrc_crcRecv_toNat (b : Byte) (c : Context) :
    (takeCrc b c).crcRecv.toNat =
      if c.idx.toNat < 512 then c.crcRecv.toNat
      else if c.idx.toNat = 512 then b.toNat * 256 else c.crcRecv.toNat / 256 * 256 + b.toNat := by
  have hrecv := c.crcRecv.isLt
  rw [takeCrc_crcRecv]
  split
  · rfl
  split
  · rw [append_toNat]; simp
  · rw [append_toNat, extract_toNat]; omega

/-- In the window the byte is stored at its address, and no other address changes. -/
theorem copyByte_inside {s : State} (hs : memWf s.mem = true) (hw : InWindow s.ctx s.ctx.idx.toNat) (b : Byte) :
    memRead (copyByte b s).mem (readAddr s.ctx).toNat = b ∧
      ∀ a, a ≠ (readAddr s.ctx).toNat → memRead (copyByte b s).mem a = memRead s.mem a := by
  rw [copyByte, if_pos ((inWindow_iff_InWindow _).2 hw), dmaWrite_mem]
  exact ⟨memRead_write_self hs _ b, fun _ ha => memRead_write_other _ b ha⟩

/-- Outside the window nothing is stored. -/
theorem copyByte_outside {s : State} (hw : ¬ InWindow s.ctx s.ctx.idx.toNat) (b : Byte) : copyByte b s = s :=
  if_neg (mt (inWindow_iff_InWindow _).1 hw)

/-- The exchange before the copy does not touch memory. -/
theorem copyByte_exchanged (b out : Byte) (s : State) :
    copyByte b (exchanged out s) = { exchanged out s with mem := (copyByte b s).mem } := by
  rw [copyByte, copyByte, show (exchanged out s).ctx = s.ctx from rfl]
  split <;> rfl

/-- `s` after one byte of the read stream, the completion apart: the byte exchanged, copied and taken into its CRC, the
index one up. -/
def streamed (s : State) : State :=
  { exchanged FILL s with
    mem := (copyByte (cardAnswer s) s).mem
    ctx :=
      { s.ctx with
        idx := s.ctx.idx + 1
        crcCalc := (takeCrc (cardAnswer s) s.ctx).crcCalc
        crcRecv := (takeCrc (cardAnswer s) s.ctx).crcRecv } }

/-- R_DATA's tick where its address is not refused. -/
theorem exec_readData {s : State} (h : InWindow s.ctx s.ctx.idx.toNat → dmaAdmits s (readAddr s.ctx) = true) :
    exec .stateRData s = .next (if s.ctx.idx = 513 then completeRead (streamed s) else streamed s) := by
  have hadmitted : ¬ (inWindow s.ctx = true ∧ dmaAdmits s (readAddr s.ctx) = false) := by
    rw [inWindow_iff_InWindow]
    rintro ⟨hw, hd⟩
    simp [h hw] at hd
  have hlast : s.ctx.idx + 1 = 514 ↔ s.ctx.idx = 513 := by bv_omega
  rw [exec, execStateRData, if_neg hadmitted, show xchg FILL s = (cardAnswer s, exchanged FILL s) from rfl]
  dsimp only
  rw [copyByte_exchanged, takeCrc_eq]
  exact congrArg Host.Outcome.next (if_congr hlast rfl rfl)

/-- The end of a read (R254) with its code. -/
theorem completeRead_eq (s : State) :
    completeRead s =
      completed (if s.params.crc16Enforce ∧ s.ctx.crcCalc ≠ s.ctx.crcRecv then 2 else 0)
        { released s with
          dev := { s.dev with rdCount := s.dev.rdCount + 1 }
          diag :=
            { rdCrcCalc := s.ctx.crcCalc, rdCrcRecv := s.ctx.crcRecv,
              crcMismatch := decide (s.ctx.crcCalc ≠ s.ctx.crcRecv) } } := by
  have hmismatch := and_congr_right' (a := s.params.crc16Enforce = true)
    (decide_eq_true_iff (p := s.ctx.crcCalc ≠ s.ctx.crcRecv))
  refine (if_congr hmismatch rfl rfl).trans ?_
  split <;> rfl

/-- Settles O42: the tick's parts, before and at the last byte. -/
theorem readStreamByte : Obligations.ReadStreamByte := by
  intro s _ hs hd
  refine ⟨_, _, _, (copyByte (cardAnswer s) s).mem, exec_readData hd, takeCrc_crcCalc _ _, takeCrc_crcRecv_toNat _ _,
    fun hw => copyByte_inside hs hw _, fun hw => congrArg State.mem (copyByte_outside hw _), fun hmore => if_neg hmore,
    fun hlast => (if_pos hlast).trans ?_⟩
  rw [completeRead_eq, streamed, hlast]
  rfl

/-! ## The caller's buffer -/

/-- The address of byte `k` of the caller's buffer (R61). -/
def bufferAddr (c : Context) (k : Nat) : Addr := c.snapBuf + BitVec.ofNat 32 k

/-- A window is shorter than memory, so its bytes have different addresses. -/
theorem bufferAddr_toNat_ne {c : Context} {j k : Nat} (hj : j < 2 ^ 16) (hk : k < 2 ^ 16) (h : j ≠ k) :
    (bufferAddr c j).toNat ≠ (bufferAddr c k).toNat := by
  simp only [bufferAddr, BitVec.toNat_add, BitVec.toNat_ofNat]
  omega

/-- The byte of stream index `idx` is buffer byte `idx - snap_offset` (R253). -/
theorem readAddr_eq_bufferAddr {c : Context} (hw : InWindow c c.idx.toNat) :
    readAddr c = bufferAddr c (c.idx.toNat - c.snapOffset.toNat) := by
  refine BitVec.eq_of_toNat_eq ((readAddressFormula c hw).trans ?_)
  simp only [bufferAddr, BitVec.toNat_add, BitVec.toNat_ofNat]
  omega

/-- From `m` to `m'` the bytes of `got` in the window, and no others, have been copied into the buffer (R255). -/
structure Copied (c : Context) (got : List Byte) (m m' : Memory) : Prop where
  window : ∀ k, c.snapOffset.toNat + k < got.length → k < c.snapCount.toNat →
    some (memRead m' (bufferAddr c k).toNat) = got[c.snapOffset.toNat + k]?
  frame : ∀ a : Nat, (∀ k, c.snapOffset.toNat + k < got.length → k < c.snapCount.toNat →
    a ≠ (bufferAddr c k).toNat) → memRead m' a = memRead m a

namespace Copied

variable {c : Context} {got : List Byte} {m m' m'' : Memory}

theorem nil (c : Context) (m : Memory) : Copied c [] m m := ⟨nofun, fun _ _ => rfl⟩

/-- A byte outside the window is not copied. -/
theorem skip (h : Copied c got m m') (hw : ¬ InWindow c got.length) (b : Byte) : Copied c (got ++ [b]) m m' := by
  have old {k : Nat} (hk : c.snapOffset.toNat + k < (got ++ [b]).length) (hcount : k < c.snapCount.toNat) :
      c.snapOffset.toNat + k < got.length := by
    simp only [InWindow, List.length_append, List.length_singleton] at hw hk
    omega
  refine ⟨fun k hk hcount => ?_, fun a ha => h.frame a fun k hk => ha k (by simp; omega)⟩
  rw [h.window k (old hk hcount) hcount, List.getElem?_append_left (old hk hcount)]

/-- A byte in the window is stored behind the bytes copied before. -/
theorem store (h : Copied c got m m') (hw : InWindow c got.length) {b : Byte}
    (hsame : memRead m'' (bufferAddr c (got.length - c.snapOffset.toNat)).toNat = b)
    (hother : ∀ a, a ≠ (bufferAddr c (got.length - c.snapOffset.toNat)).toNat → memRead m'' a = memRead m' a) :
    Copied c (got ++ [b]) m m'' := by
  obtain ⟨hlo, hhi⟩ := hw
  have hsize := c.snapCount.isLt
  refine ⟨fun k hk hcount => ?_, fun a ha => ?_⟩
  · rw [List.length_append, List.length_singleton] at hk
    by_cases hnew : c.snapOffset.toNat + k = got.length
    · rw [hnew, show k = got.length - c.snapOffset.toNat by omega, hsame]
      simp
    · rw [hother _ (bufferAddr_toNat_ne (by omega) (by omega) (by omega)), h.window k (by omega) hcount,
        List.getElem?_append_left (by omega)]
  · rw [hother a (ha _ (by simp; omega) (by omega))]
    exact h.frame a fun k hk => ha k (by simp; omega)

end Copied

/-! ## The whole stream -/

/-- The read FSM is about to stream: only ticks are to come, memory is canonical and the window's addresses are
admitted. -/
structure ReadsBlock (s : State) : Prop where
  outside : s.outside = .script []
  srv : s.srv = .busy
  live : s.live = .read
  memory : memWf s.mem = true
  admitted : ∀ k, s.ctx.snapOffset.toNat + k < 514 → k < s.ctx.snapCount.toNat →
    dmaAdmits s (bufferAddr s.ctx k) = true

/-- From `s` to `u` the bytes `got` of the read stream have been received. -/
structure Received (s : State) (got : List Byte) (u : State) : Prop where
  runs : Runs s u
  outside : u.outside = s.outside
  fsm : u.fsm = Fsm.rData
  idx : u.ctx.idx.toNat = got.length
  crcCalc : u.ctx.crcCalc = crc16 (got.take 512)
  crcRecv : 512 < got.length → u.ctx.crcRecv = got.getD 512 0 ++ got.getD 513 0
  copied : Copied s.ctx got s.mem u.mem

theorem crc16_concat (got : List Byte) (b : Byte) : crc16 (got ++ [b]) = crc16Upd (crc16 got) b :=
  List.foldl_concat ..

/-- One step of a run. -/
theorem run_step {s t : State} (h : step s = .next t) (n : Nat) :
    Host.Core.run core (n + 1) s = Host.Core.run core n t := by
  simp only [Host.Core.run, show core.step s = .next t from h]

namespace Received

variable {s u : State} {got : List Byte}

/-- The part of the snapshot that R_DATA reads (R31). -/
theorem snapshot_eq (r : Received s got u) :
    u.ctx.snapBuf = s.ctx.snapBuf ∧ u.ctx.snapOffset = s.ctx.snapOffset ∧ u.ctx.snapCount = s.ctx.snapCount := by
  have hsnap := r.runs.snapshot
  simp only [snapOf, Prod.mk.injEq] at hsnap
  obtain ⟨-, hbuf, -, hoff, hcount⟩ := hsnap
  exact ⟨hbuf, hoff, hcount⟩

/-- The window is the snapshot's. -/
theorem inWindow_iff (r : Received s got u) : InWindow u.ctx u.ctx.idx.toNat ↔ InWindow s.ctx got.length := by
  obtain ⟨-, hoff, hcount⟩ := r.snapshot_eq
  rw [InWindow, InWindow, hoff, hcount, r.idx]

/-- The next byte's address in the window is the snapshot's next buffer byte. -/
theorem readAddr_eq (r : Received s got u) (hw : InWindow s.ctx got.length) :
    readAddr u.ctx = bufferAddr s.ctx (got.length - s.ctx.snapOffset.toNat) := by
  obtain ⟨hbuf, hoff, -⟩ := r.snapshot_eq
  rw [readAddr_eq_bufferAddr (r.inWindow_iff.2 hw), bufferAddr, bufferAddr, hbuf, hoff, r.idx]

theorem streamed_copied (r : Received s got u) (hs : memWf s.mem = true) :
    Copied s.ctx (got ++ [cardAnswer u]) s.mem (streamed u).mem := by
  by_cases hw : InWindow s.ctx got.length
  · obtain ⟨hsame, hother⟩ := copyByte_inside (r.runs.memory hs) (r.inWindow_iff.2 hw) (cardAnswer u)
    rw [r.readAddr_eq hw] at hsame hother
    exact r.copied.store hw hsame hother
  · have hmem := congrArg State.mem (copyByte_outside (mt r.inWindow_iff.1 hw) (cardAnswer u))
    exact hmem ▸ r.copied.skip hw _

theorem streamed_crcCalc (r : Received s got u) :
    (streamed u).ctx.crcCalc = crc16 ((got ++ [cardAnswer u]).take 512) := by
  refine (takeCrc_crcCalc _ _).trans ?_
  rw [r.idx, r.crcCalc]
  split
  case isTrue hdata =>
    rw [List.take_of_length_le hdata.le, List.take_of_length_le (by simpa using hdata), crc16_concat]
  case isFalse htrailer => rw [List.take_append_of_le_length (by omega)]

theorem streamed_crcRecv (r : Received s got u) (h : got.length < 514) (htrailer : 512 ≤ got.length) :
    (streamed u).ctx.crcRecv = (got ++ [cardAnswer u]).getD 512 0 ++ (got ++ [cardAnswer u]).getD 513 0 := by
  refine (takeCrc_crcRecv _ _).trans ?_
  rw [r.idx, if_neg (by omega)]
  split
  case isTrue hhigh => simp [hhigh]
  case isFalse hlow =>
    have hlen : got.length = 513 := by omega
    rw [r.crcRecv (by omega), BitVec.extractLsb'_append_eq_left]
    simp [hlen]

/-- One more byte received. -/
theorem concat (r : Received s got u) (hs : memWf s.mem = true) (h : got.length < 514) :
    Received s (got ++ [cardAnswer u]) (streamed u) where
  runs := { r.runs with memory := (r.runs.copyByte (cardAnswer u)).memory }
  outside := r.outside
  fsm := r.fsm
  idx := by
    have hidx := r.idx
    rw [List.length_append, List.length_singleton, ← hidx]
    change (u.ctx.idx + 1).toNat = _
    bv_omega
  crcCalc := r.streamed_crcCalc
  crcRecv := fun hlen => r.streamed_crcRecv h (by simpa [Nat.lt_succ_iff] using hlen)
  copied := r.streamed_copied hs

/-- The next byte's address is admitted. -/
theorem admitted (r : Received s got u) (hs : ReadsBlock s) (h : got.length < 514)
    (hw : InWindow u.ctx u.ctx.idx.toNat) : dmaAdmits u (readAddr u.ctx) = true := by
  have hw' := r.inWindow_iff.1 hw
  have hadmitted : dmaAdmits s (bufferAddr s.ctx (got.length - s.ctx.snapOffset.toNat)) = true := by
    obtain ⟨hlo, hhi⟩ := hw'
    exact hs.admitted _ (by omega) (by omega)
  rwa [r.readAddr_eq hw', dmaAdmits, r.runs.params]

/-- The next step is R_DATA's tick. -/
theorem step_eq (r : Received s got u) (hs : ReadsBlock s) (h : got.length < 514) :
    step u = .next (if got.length = 513 then completeRead (streamed u) else streamed u) := by
  obtain ⟨htick, htake⟩ := nextEvent_empty u (r.outside.trans hs.outside)
  have hrow : lookupState (liveRows u.live) u.fsm = some .stateRData := by rw [r.runs.live, hs.live, r.fsm]; rfl
  have hlast : u.ctx.idx = 513 ↔ got.length = 513 := by rw [← r.idx, ← BitVec.toNat_inj]; rfl
  rw [step_busy htick (r.runs.srv.trans hs.srv) hrow, htake, exec_readData (r.admitted hs h)]
  simp only [hlast]

/-- The rest of the stream: each byte but the last goes on, and the last one's tick completes the read. -/
theorem run_eq {lo : Byte} {later : List Byte} (hs : ReadsBlock s) {more : List Byte} (r : Received s got u)
    (hcard : u.card = more ++ lo :: later) (hlen : got.length + more.length = 513) :
    ∃ v, Host.Core.run core (more.length + 1) u = .next (completeRead v) ∧ Received s (got ++ more ++ [lo]) v := by
  induction more generalizing got u with
  | nil =>
    have hb : cardAnswer u = lo := by rw [cardAnswer, hcard]; rfl
    have hstep := (r.step_eq hs (by omega)).trans (congrArg _ (if_pos hlen))
    have hnext := r.concat hs.memory (by omega)
    rw [hb] at hnext
    exact ⟨_, run_step hstep 0, by simpa using hnext⟩
  | cons b more ih =>
    rw [List.length_cons] at hlen
    have hb : cardAnswer u = b := by rw [cardAnswer, hcard]; rfl
    have hstep := (r.step_eq hs (by omega)).trans (congrArg _ (if_neg (by omega)))
    have hnext := r.concat hs.memory (by omega)
    rw [hb] at hnext
    obtain ⟨v, hrun, hv⟩ := ih hnext (congrArg List.tail hcard) (by simp; omega)
    exact ⟨v, (run_step hstep _).trans hrun, by simpa using hv⟩

end Received

/-- Settles O45: the read completes from a state that has received the block and the trailer. -/
theorem readStreamCopiesTheWindow : Obligations.ReadStreamCopiesTheWindow := by
  intro s block hi lo later hout hsrv hlive hfsm hidx hcrc hmem henforce hlen hcard hadmitted
  have start : Received s [] s :=
    { runs := .refl s, outside := rfl, fsm := hfsm, idx := by rw [hidx]; rfl, crcCalc := hcrc, crcRecv := nofun,
      copied := .nil _ _ }
  have hcard' : s.card = (block ++ [hi]) ++ lo :: later := by rw [hcard, List.append_assoc]; rfl
  obtain ⟨v, hrun, r⟩ := start.run_eq ⟨hout, hsrv, hlive, hmem, hadmitted⟩ hcard' (by simp [hlen])
  rw [List.length_append, hlen] at hrun
  rw [List.nil_append, List.append_assoc, List.singleton_append] at r
  have hcalc : v.ctx.crcCalc = crc16 block := by rw [r.crcCalc, List.take_left' hlen]
  have hrecv : v.ctx.crcRecv = hi ++ lo := by rw [r.crcRecv (by simp [hlen])]; simp [hlen]
  have hend : (block ++ [hi, lo]).length = 514 := by simp [hlen]
  obtain ⟨hwindow, hframe⟩ := r.copied
  rw [hend] at hwindow hframe
  rw [completeRead_eq, r.runs.params, henforce, r.runs.dev, hcalc, hrecv] at hrun
  exact ⟨_, hrun, ⟨rfl, rfl, rfl, rfl, rfl⟩, rfl, rfl, hwindow, hframe⟩

end Sys2Proof.Machine
end

section
/-! The write FSM (spec/45_write_fsm.md R271 to R276): its command and token, one byte of the block, and by induction over
the bytes still to send, the whole block; then the CRC bytes, the data response and the busy wait. -/

namespace Sys2Proof.Machine

open Claims

/-! ## The command and the token (R271, R272) -/

/-- Settles O46: W_SEND is one call of CMD24, and W_TOKEN one exchange. -/
theorem writeCommandAndToken : Obligations.WriteCommandAndToken :=
  fun _ => ⟨⟨_, _, answers_sendCommand rfl, rfl⟩, rfl⟩

/-! ## One byte of the block (R273) -/

/-- The byte of index `idx` is buffer byte `idx` (R273). -/
theorem writeAddr_eq_bufferAddr (c : Context) : writeAddr c = bufferAddr c c.idx.toNat :=
  congrArg (c.snapBuf + ·) (BitVec.ofNat_toNat 32 c.idx).symm

theorem writeAddr_toNat (c : Context) : (writeAddr c).toNat = (c.snapBuf.toNat + c.idx.toNat) % 2 ^ 32 := by
  rw [writeAddr_eq_bufferAddr, bufferAddr, BitVec.toNat_add, BitVec.toNat_ofNat, Nat.add_mod_mod]

/-- W_DATA's tick where its address is not refused, before and at the last byte. -/
theorem exec_writeData {s : State} (h : dmaAdmits s (writeAddr s.ctx) = true) :
    exec .stateWData s =
      .next
        (if s.ctx.idx = 511 then
          { exchanged (memRead s.mem (writeAddr s.ctx).toNat) s with
            ctx := { s.ctx with idx := 0 }, fsm := Fsm.wCrc }
         else
          { exchanged (memRead s.mem (writeAddr s.ctx).toNat) s with
            ctx := { s.ctx with idx := s.ctx.idx + 1 } }) := by
  have hlast : s.ctx.idx + 1 = 512 ↔ s.ctx.idx = 511 := by bv_omega
  rw [exec, execStateWData, if_neg (by simp [h])]
  exact congrArg Host.Outcome.next (if_congr hlast rfl rfl)

/-- Settles O47: the admitted tick, and the fault of a refused one. -/
theorem writeDataByte : Obligations.WriteDataByte :=
  fun s => ⟨writeAddr_toNat s.ctx, exec_writeData, (execStateWData_fault_iff s).2⟩

/-! ## The whole block (R273, R280) -/

/-- The first `n` bytes of the caller's buffer in the memory of `s`. -/
def bufferBytes (s : State) (n : Nat) : List Byte :=
  (List.range n).map fun k => memRead s.mem (bufferAddr s.ctx k).toNat

/-- `s` after the first `n` bytes of its buffer, the index at `n`. -/
def blockSent (s : State) (n : Nat) : State :=
  { sendAll (bufferBytes s n) s with ctx := { s.ctx with idx := BitVec.ofNat 10 n } }

/-- `s` after a block of `n` bytes, the index cleared and the CRC bytes next. -/
def blockEnd (s : State) (n : Nat) : State :=
  { blockSent s n with ctx := { s.ctx with idx := 0 }, fsm := Fsm.wCrc }

/-- The next buffer byte is one exchange more. -/
theorem blockSent_succ (s : State) (n : Nat) :
    blockSent s (n + 1) =
      { exchanged (memRead s.mem (bufferAddr s.ctx n).toNat) (blockSent s n) with
        ctx := { s.ctx with idx := (blockSent s n).ctx.idx + 1 } } := by
  rw [blockSent, bufferBytes, List.range_succ, List.map_append, sendAll, List.map_singleton, List.foldl_concat,
    BitVec.ofNat_add n 1]
  rfl

/-- W_DATA reads buffer byte `n` when `n` bytes are sent. -/
theorem writeAddr_blockSent (s : State) {n : Nat} (h : n < 512) :
    writeAddr (blockSent s n).ctx = bufferAddr s.ctx n := by
  have hidx : (BitVec.ofNat 10 n).toNat = n := Nat.mod_eq_of_lt (by omega)
  exact (writeAddr_eq_bufferAddr _).trans (congrArg (bufferAddr s.ctx) hidx)

/-- What `n` buffer bytes leave, for every `n`: their exchanges in the bus history, and the frame (R273, R280). -/
theorem blockEnd_spec (s : State) (n : Nat) :
    ∃ answers : List Byte, answers.length = n ∧
      (blockEnd s n).bus = s.bus ++ List.zipWith (busEvent s) (bufferBytes s n) answers ∧
      (blockEnd s n).mem = s.mem ∧ (blockEnd s n).dev = s.dev ∧ (blockEnd s n).record = s.record := by
  obtain ⟨answers, hlen, hbus, -, -⟩ := sendAll_spec (bufferBytes s n) s
  rw [bufferBytes, List.length_map, List.length_range] at hlen
  exact ⟨answers, hlen, hbus, sendAll_mem _ s, sendAll_dev _ s, sendAll_record _ s⟩

/-- The write FSM is about to send its block: only ticks are to come, and the buffer's addresses are admitted. -/
structure WritesBlock (s : State) : Prop where
  outside : s.outside = .script []
  srv : s.srv = .busy
  live : s.live = .write
  fsm : s.fsm = Fsm.wData
  admitted : ∀ k, k < 512 → dmaAdmits s (bufferAddr s.ctx k) = true

namespace WritesBlock

variable {s : State} {n : Nat}

/-- The next byte's address is admitted. -/
theorem admitted_blockSent (w : WritesBlock s) (h : n < 512) :
    dmaAdmits (blockSent s n) (writeAddr (blockSent s n).ctx) = true := by
  have hparams : (blockSent s n).params = s.params := sendAll_params _ s
  rw [writeAddr_blockSent s h, dmaAdmits, hparams]
  exact w.admitted n h

/-- The next step is W_DATA's tick: it sends one byte more, and the 512th leads on to the CRC bytes. -/
theorem step_eq (w : WritesBlock s) (h : n < 512) :
    step (blockSent s n) = .next (if n = 511 then blockEnd s (n + 1) else blockSent s (n + 1)) := by
  obtain ⟨htick, htake⟩ := nextEvent_empty (blockSent s n) ((sendAll_outside _ s).trans w.outside)
  have hsrv : (blockSent s n).srv = .busy := (sendAll_srv _ s).trans w.srv
  have hrow : lookupState (liveRows (blockSent s n).live) (blockSent s n).fsm = some .stateWData := by
    simp only [blockSent, sendAll_live, sendAll_fsm, w.live, w.fsm]
    rfl
  have hmem : (blockSent s n).mem = s.mem := sendAll_mem _ s
  have hlast : (blockSent s n).ctx.idx = 511 ↔ n = 511 := by
    change BitVec.ofNat 10 n = 511 ↔ _
    bv_omega
  rw [step_busy htick hsrv hrow, htake, exec_writeData (w.admitted_blockSent h), writeAddr_blockSent s h, hmem,
    blockEnd, blockSent_succ]
  exact congrArg Host.Outcome.next (if_congr hlast rfl rfl)

/-- The rest of the block: each byte but the last goes on, and the last one's tick ends it. -/
theorem run_eq (w : WritesBlock s) {more : Nat} (h : n + more = 511) :
    Host.Core.run core (more + 1) (blockSent s n) = .next (blockEnd s 512) := by
  induction more generalizing n with
  | zero =>
    have hstep := (w.step_eq (n := n) (by omega)).trans (congrArg _ (if_pos h))
    rw [show n + 1 = 512 by omega] at hstep
    exact run_step hstep 0
  | succ more ih =>
    have hstep := (w.step_eq (n := n) (by omega)).trans (congrArg _ (if_neg (by omega)))
    exact (run_step hstep _).trans (ih (by omega))

end WritesBlock

/-- Settles O50: the 512 ticks are the buffer sent by `sendAll`, and its law gives the history and the frame. -/
theorem writeStreamSendsTheBuffer : Obligations.WriteStreamSendsTheBuffer := by
  intro s hout hsrv hlive hfsm hidx hadmitted
  have start : blockSent s 0 = s := by
    change { s with ctx := { s.ctx with idx := 0 } } = s
    rw [← hidx]
  have hrun := WritesBlock.run_eq ⟨hout, hsrv, hlive, hfsm, hadmitted⟩ (Nat.zero_add 511)
  obtain ⟨answers, hlen, hbus, hmem, hdev, hrecord⟩ := blockEnd_spec s 512
  have hctx : (blockEnd s 512).ctx = s.ctx := by rw [blockEnd, ← hidx]
  rw [start] at hrun
  exact ⟨_, answers, hrun, hlen, hbus, rfl, hmem, hdev, hrecord, hctx⟩

/-! ## The CRC bytes, the data response and the busy wait (R274 to R276) -/

/-- The accepted pattern fills the low five bits (R94). -/
theorem dataAccepted_iff (d : Byte) : dataAccepted d = true ↔ d.toNat % 32 = 5 := by
  rw [dataAccepted, decide_eq_true_iff, ← BitVec.toNat_inj, BitVec.toNat_and]
  exact Eq.congr_left (Nat.and_two_pow_sub_one_eq_mod d.toNat 5)

/-- Settles O48: the two branches of each rule; the second CRC byte is the one of index 1. -/
theorem writeCrcAndResponse : Obligations.WriteCrcAndResponse := by
  intro s
  have hlast : s.ctx.idx + 1 = 2 ↔ s.ctx.idx = 1 := by bv_omega
  refine ⟨congrArg Host.Outcome.next ((if_congr hlast rfl rfl).trans ?_),
    congrArg Host.Outcome.next (if_congr (dataAccepted_iff _) rfl rfl)⟩
  split <;> rfl

/-- Settles O49: both exits are `finishWrite`, and the exchange does not touch the timer. -/
theorem writeBusyWait : Obligations.WriteBusyWait := by
  intro s
  have htimer : expired (xchg FILL s).2 = true ↔ s.phase = .expired := decide_eq_true_iff
  exact congrArg Host.Outcome.next (if_congr .rfl rfl (if_congr htimer rfl rfl))

end Sys2Proof.Machine
end

section
/-! The server (spec/46_server.md R290 to R298): what each of its three states does at a tick, the take-up of a request,
and that a micro-step goes on or completes. -/

namespace Sys2Proof.Machine

open Claims

/-! ## Taking up a request (R293, R294) -/

/-- An idle server posts the code validation answers, and accepts where it answers none. -/
theorem takeUp_idle {s : State} (hs : s.srv = .idle) (k : Byte) :
    takeUp k s = (validate k s).elim (accept k s) (post · s) := by
  rw [takeUp, hs]
  cases validate k s <;> rfl

/-- Acceptance starts the FSM of the kind at its entry state. -/
theorem accept_eq (k : Byte) (s : State) :
    accept k s =
      if k = 1 then accepted .init 0x10 s else if k = 2 then accepted .read 0x30 s else accepted .write 0x40 s := by
  rw [accept, entryLive, entryState]
  split_ifs <;> rfl

/-- Validation of a valid kind: the checks after the first, of which INIT has only `DEVICE`. -/
theorem validate_valid {k : Byte} (h0 : k ≠ 0) (h3 : ¬ 3 < k) (s : State) :
    validate k s =
      if s.record.device ≠ 0 then some Code.parerr
      else if 1 < k ∧ s.dev.lastSector < s.record.sector then some Code.parerr
      else if k = 2 ∧ s.record.count = 0 then some Code.parerr
      else if 1 < k ∧ s.dev.mounted = false then some Code.notInitialized
      else none := by
  have valid : k = 1 ∨ k = 2 ∨ k = 3 := by bv_omega
  have transfers : k = 2 ∨ k = 3 ↔ 1 < k := by bv_omega
  rw [validate, if_neg (not_not.2 valid)]
  simp only [transfers, gt_iff_lt]

/-- Settles O17: a kind above WRITE fails the first check; for the others, the outcome of each check of `validate`. -/
theorem requestTakenUp : Obligations.RequestTakenUp := by
  intro k i s hs h0 hi
  have hexec : exec i s = .next (takeUp k s) := by
    obtain ⟨rfl, rfl⟩ | ⟨rfl, rfl⟩ | ⟨rfl, rfl⟩ | ⟨-, rfl⟩ := hi
    · rfl
    · rfl
    · rfl
    · exact exec_request s h0
  rw [hexec]
  by_cases h3 : 3 < k
  · rw [takeUp_invalid hs h3, if_pos h3]
  · rw [takeUp_idle hs, validate_valid h0 h3, if_neg h3, ← accept_eq]
    simp only [apply_ite (Option.elim · (accept k s) (post · s))]
    rfl

/-! ## The server's tick (R290, R291, R295, R297) -/

/-- An idle server's tick runs the request in `KIND`. -/
theorem step_idle {s : State} (he : nextEvent s = .tick) (hs : s.srv = .idle) :
    step s = exec (decodeRequest s.record.kind) (takeEvent s) := by
  rw [step_tick s he, tick, fetch, takeEvent_srv, hs, takeEvent_record]

/-- A state code of the live FSM decodes to its row's instruction (R97). -/
theorem decode_liveRow {l : Live} {c : Byte} {i : Instr} (h : lookupState (liveRows l) c = some i) :
    decode .state8 [c] = .ok i [] :=
  lookupState_forall (P := fun c i => decode .state8 [c] = .ok i []) (by cases l <;> decide) h

/-- Settles O14: the decoder and the control point read the same row. -/
theorem stepRunsTheDecodedInstruction : Obligations.StepRunsTheDecodedInstruction := by
  intro s i he
  refine ⟨fun hs hd => ?idle, fun hs hl hd hof => ?busy⟩
  case idle =>
    cases hd
    exact step_idle he hs
  case busy =>
    obtain ⟨j, hj⟩ := Option.isSome_iff_exists.1 (lookupState_isSome hof hl)
    cases hd.symm.trans (decode_liveRow hj)
    exact step_busy he hs hj

/-- Settles O15: `KIND` = 0 is the request NONE, whose tick does nothing. -/
theorem idleTick : Obligations.IdleTick := by
  intro s
  refine ⟨rfl, fun hs hk => ⟨?_, fun he => ?_⟩⟩
  · rw [exec, execStateNone, hs]
    exact if_pos hk
  · rw [step_idle he hs, hk]
    rfl

/-- Settles O16, server state by server state. -/
theorem stateNoneRunsTheServer : Obligations.StateNoneRunsTheServer := by
  intro s
  refine ⟨fun hs => ?idle, fun hs => ?busy, fun hs => ?fatal⟩ <;> rw [exec, execStateNone, hs]
  case idle =>
    by_cases hk : s.record.kind = 0
    · rw [hk]; rfl
    · rw [exec_request s hk]
      exact if_neg hk
  case busy => rfl

/-! ## A busy server (R295, R296, R298) -/

/-- Settles O19: a busy server's control point holds a row of the live FSM. -/
theorem busyServerRunsOnlyItsFsm : Obligations.BusyServerRunsOnlyItsFsm := by
  intro s i hs hf
  rw [fetch, hs] at hf
  obtain ⟨hformat, hne, henc, hof⟩ := liveRows_spec s.live hf
  exact ⟨⟨hformat, hne⟩, henc, hof⟩

/-- Settles O20: of the moves, those that do not complete keep the server and the record. -/
theorem microStepGoesOnOrCompletes : Obligations.MicroStepGoesOnOrCompletes := by
  intro i s t hi h
  cases exec_move hi h with
  | enter => exact .inl ⟨rfl, rfl, rfl⟩
  | goto r | stay r => exact .inl ⟨r.srv, r.live, r.record⟩
  | complete r | countRead _ r | countWrite _ r =>
    exact .inr ⟨rfl, rfl, rfl, _, (complete_record _ _).trans (by rw [r.record])⟩
  | commit => exact .inr ⟨rfl, rfl, rfl, Code.ok, rfl⟩

/-- A code outside the live FSM, or with none live, is no instruction (R295). -/
theorem fetchState_eq_none {s : State} (h : liveOf s.fsm ≠ s.live ∨ s.live = .none) : fetchState s = none := by
  rw [fetchState]
  obtain hof | hl := h
  · refine Option.eq_none_iff_forall_ne_some.2 fun i hi => ?_
    obtain ⟨-, -, -, hof'⟩ := liveRows_spec s.live hi
    exact hof hof'
  · rw [hl]; rfl

/-- Settles O23: the control point holds nothing, so the tick raises Fatal. -/
theorem undefinedStateEntersTheSink : Obligations.UndefinedStateEntersTheSink := by
  intro s hs hcode he
  have hb : (takeEvent s).srv = .busy := (takeEvent_srv s).trans hs
  have hnone : fetchState (takeEvent s) = none := fetchState_eq_none (by simpa using hcode)
  rw [step_tick s he, tick, fetch, hb, hnone, raiseFatal, takeEvent_record]
  rfl

/-! ## The sink (R297) -/

/-- In the sink a tick does nothing. -/
theorem tick_fatal {s : State} (hs : s.srv = .fatal) : tick s = .next s := by
  rw [tick, fetch, hs]
  rfl

/-- Settles O22: no other agent but reset touches `srv`. -/
theorem sinkIgnoresTicks : Obligations.SinkIgnoresTicks := by
  intro s hs
  have hs' : (takeEvent s).srv = .fatal := (takeEvent_srv s).trans hs
  have htick (he : nextEvent s = .tick) : step s = .next (takeEvent s) := (step_tick s he).trans (tick_fatal hs')
  refine ⟨htick, fun t hreset h => ?_⟩
  by_cases he : nextEvent s = .tick
  · rw [htick he] at h; cases h; exact hs'
  · exact (SameBlock.perform he hreset h).srv.trans hs'

/-! ## A host write (R311 to R313) -/

/-- A write to the register at an aligned offset stores the low bits of a request field, and nothing elsewhere. -/
theorem storeField_eq {offset : Nat} (h : offset < 0x40) (ha : offset % 4 = 0) (w : Word) (c : Record) :
    storeField (hostRegAt (offset / 4)) w c = recordWritten offset w c := by
  obtain ⟨index, rfl⟩ := Nat.dvd_of_mod_eq_zero ha
  have hi : index < 16 := by omega
  rw [Nat.mul_div_cancel_left index (by decide)]
  interval_cases index <;> rfl

/-- Settles O25: the address selects the register at its offset. -/
theorem hostWritesTheRequestFields : Obligations.HostWritesTheRequestFields := by
  intro s offset w h ha he
  have hoff : hostOffset (s.params.regBase + BitVec.ofNat 32 offset) (takeEvent s) = offset :=
    (hostOffset_takeEvent _ s).trans (hostOffset_add s h)
  rw [step_event s he, perform, hostWriteStep, inRegBlock, hostAligned, hostReg, hoff, storeField_eq h ha,
    takeEvent_record]
  simp [h, ha]

end Sys2Proof.Machine
end

section
/-! Reset (spec/70_reset_and_hazards.md R350 to R352): the block's own state is R47's whatever state reset finds, and what
lies outside the block stays. -/

namespace Sys2Proof.Machine

open Claims

/-- Every piece that R47 gives a value is one that `resetBlock` takes from `State.reset`. -/
theorem resetBlock_atReset (s : State) : AtReset (resetBlock s) := resetValues

/-- Settles O29: the step is `resetBlock` once the event is taken, which touches only what is still to come from outside. -/
theorem resetInput : Obligations.ResetInput := by
  intro s he
  refine ⟨resetBlock (takeEvent s), step_event s he, resetBlock_atReset _, ?mem, ?params, ?bus, ?card⟩
  case mem => rw [resetBlock_mem, takeEvent_mem]
  case params => rw [resetBlock_params, takeEvent_params]
  case bus => rw [resetBlock_bus, takeEvent_bus]
  case card => rw [resetBlock_card, takeEvent_card]

end Sys2Proof.Machine
end
